-- ==== Sys2Proof/Word.lean ====
section
/-! DEFINITION. The word types of the block and the one list type its device arrays are held in. -/

namespace Sys2Proof

/-- One byte of the frame buffer or of an I2C frame (00_scope R11). -/
abbrev Byte := BitVec 8

/-- One 16-bit word of the SPI device (00_scope R9, `SPI_WORD_WIDTH`). -/
abbrev DataWord := BitVec 16

/-- One word written to `CMD` (30_encoding R61). -/
abbrev CommandWord := BitVec 32

/-- The contents of a device's array as far as they are known: address and content pairs, addresses
strictly rising. An address that is not listed holds no known value. `Cells 8` is a list of
`Host.Cell`. -/
abbrev Cells (w : Nat) := List (Nat × BitVec w)

end Sys2Proof
end

