-- ==== Sys2Proof/Syntax.lean ====
section
/-! DEFINITION. The words the block speaks: statuses, transfer options, channel requests and answers,
the environment's moves, and `Instr`, one constructor for each row of spec/opcode_table.json. -/

namespace Sys2Proof

/-- The closed enumeration of bus outcomes (30_encoding R68; 90_conflicts C2: the union of both lists). -/
inductive Status where
  | ok
  | deviceNotFound
  | notOpened
  | ioError
  | insufficientResources
  | invalidParameter
  | other
  deriving DecidableEq, Repr, Inhabited

/-- The set of transfer-option flags of one call, as its characteristic function (30_encoding R64).
`SizeInBytes` is the absence of `sizeInBits` (90_conflicts C3). -/
structure Options where
  startBit : Bool := false
  stopBit : Bool := false
  breakOnNack : Bool := false
  nackLastByte : Bool := false
  sizeInBits : Bool := false
  chipSelectEnable : Bool := false
  chipSelectDisable : Bool := false
  noAddress : Bool := false
  fastBytes : Bool := false
  fastBits : Bool := false
  deriving DecidableEq, Repr, Inhabited

/-- The two buses (20_memory R40). -/
inductive Bus where
  | i2c
  | spi
  deriving DecidableEq, Repr, Inhabited

/-- The channel a request goes to; an I2C request carries the slave address (30_encoding R71, R73). -/
inductive Target where
  | i2c (slave : BitVec 7)
  | spi
  deriving DecidableEq, Repr, Inhabited

/-- The direction of a transfer (30_encoding R73). -/
inductive Direction where
  | write
  | read
  deriving DecidableEq, Repr, Inhabited

/-- One channel request (30_encoding R73). `buf` is the meaningful leading part of the frame buffer:
the bytes to send for a write, empty for a read. -/
structure Request where
  target : Target
  dir : Direction
  buf : List Byte
  size : Nat
  opts : Options
  deriving DecidableEq, Repr, Inhabited

/-- One channel call with its answer (00_scope R15). -/
inductive Call where
  | xfer (req : Request) (status : Status) (moved : Nat) (bytes : List Byte)
  | isBusy (status : Status) (busy : Bool)
  deriving DecidableEq, Repr, Inhabited

/-- What the I2C channel and device hold beside the array (10_state R31): whether a START has been sent
with no STOP since, and whether the device's internal write cycle is in progress. -/
structure I2cLine where
  opened : Bool
  cycle : Bool
  deriving DecidableEq, Repr, Inhabited

/-- What the SPI channel and device hold beside the array (10_state R31): the chip-select level
(`true` is asserted), the bits sent since it was asserted, the write-enabled state and whether a write
is in progress (the ready line shows busy). -/
structure SpiLine where
  cs : Bool
  wire : List Bool
  enabled : Bool
  cycle : Bool
  deriving DecidableEq, Repr, Inhabited

/-- One answer of the oracle (40_channel_primitives R106): whether the call returns at all (R113), the
status code, the units moved, the bytes of a read, the busy value of `IsBusy`, and what the bus and the
device are left in where the spec leaves that open (93 U2, U5, U10, U11). A call uses the fields that
belong to it. -/
structure Reply where
  returns : Bool
  code : Nat
  moved : Nat
  bytes : List Byte
  busy : Bool
  i2cAfter : I2cLine
  spiAfter : SpiLine
  deriving DecidableEq, Repr, Inhabited

/-- One move of the agents around the engine (60_exceptions R188): the host writes `CMD` (10_state R23);
the collaborator drives a handle input (R24); a device's write cycle ends by itself (R31); reset strikes
(70_reset R201; the arguments are what an abandoned operation leaves its bus in); or the engine is
given a turn: one phase, or one whole physical SPI transaction (`engineFrame`; anything else of an
operation is one phase there too) before another agent may move. -/
inductive Input where
  | cmd (w : CommandWord)
  | handle (bus : Bus) (valid : Bool)
  | cycleEnds (bus : Bus)
  | reset (i2c : I2cLine) (spi : SpiLine)
  | engine
  | engineFrame
  deriving DecidableEq, Repr, Inhabited

/-- The instructions: one constructor for each row of spec/opcode_table.json. The four host commands
(30_encoding R62), the four whole SPI wire frames (R76 to R79), the eight SPI phases (R75) and the four
I2C frames (R72). An I2C frame carries the slave address of its request (R73). The two phases that only
receive have no operand for the received bits: those are the channel's answer. -/
inductive Instr where
  | i2cWriteByte (dev : BitVec 7) (loc : BitVec 11) (data : Byte)
  | i2cReadByte (dev : BitVec 7) (loc : BitVec 11)
  | spiWriteWord (addr : BitVec 8) (data : DataWord)
  | spiReadWord (addr : BitVec 8)
  | spiFrameWriteEnable (x : BitVec 4)
  | spiFrameWriteDisable (x : BitVec 4)
  | spiFrameWrite (a : BitVec 8) (lo hi : Byte)
  | spiFrameRead (a : BitVec 8)
  | spiWe
  | spiWrOp (a : BitVec 5)
  | spiWrLo (b : BitVec 3)
  | spiWrData (lo hi : Byte)
  | spiWd
  | spiRdOp (a : BitVec 5)
  | spiRdLo (b : BitVec 3)
  | spiRdData
  | i2cPrimary (slave : BitVec 7) (reg data : Byte)
  | i2cPoll (slave : BitVec 7) (reg : Byte)
  | i2cSetup (slave : BitVec 7) (reg : Byte)
  | i2cRead (slave : BitVec 7)
  deriving DecidableEq, Repr, Inhabited

/-- The three layers of encoding (30_encoding, opening): a host command word, a channel request, the
bits of one chip-select assertion in wire order. -/
inductive Encoded where
  | command (w : CommandWord)
  | request (r : Request)
  | wire (bits : List Bool)
  deriving DecidableEq, Repr, Inhabited

/-- Why a decoder refuses. -/
inductive DecodeError where
  /-- a must-be-zero field of a command word is not zero (30_encoding R63) -/
  | illegalCommand
  /-- the request carries `NoAddress`, `FastBytes` or `FastBits` (93 U6) -/
  | reservedFlag
  /-- the request moves nothing: it is `SPI_STROBE` or `SPI_RELEASE`, which have no row (30_encoding R84) -/
  | chipSelectOnly
  /-- the request is that of no phase (30_encoding R72, R75) -/
  | unknownRequest
  /-- the bits are no frame that D0 describes (30_encoding R86) -/
  | unknownFrame
  deriving DecidableEq, Repr, Inhabited

end Sys2Proof
end

