-- ==== Sys2Proof/Config.lean ====
section
/-! DEFINITION. The parameters of an implementation (00_scope R9) and the free values: opaque constants
without a body, so that nothing proved rests on what they are. -/

namespace Sys2Proof

/-- How an SPI address is split over the opcode byte and the next byte (30_encoding R80). -/
inductive AddrPacking where
  | prose53
  | s8Literal
  deriving DecidableEq, Repr, Inhabited

/-- The parameter record of 00_scope R9 (R10: a model takes them as fields of a configuration record). -/
structure Params where
  i2cRetryBudget : Nat
  spiBusyBudget : Nat
  i2cLocLimit : Nat
  fbCap : Nat
  i2cPrimaryAbort : Bool
  addrPacking : AddrPacking
  deriving DecidableEq, Repr, Inhabited

/-- The implementation's own choice of the OPEN parameters: a free value (assumption 1). -/
opaque Config.implementation : Params

/-- The parameters of the machine after reset: every OPEN one free within its range, the two that the
spec fixes at their values (00_scope R9; 92 D8, D11, D13, D19, D20). -/
def Config.params : Params where
  i2cRetryBudget := 1 + Config.implementation.i2cRetryBudget % 255
  spiBusyBudget := 1 + Config.implementation.spiBusyBudget % 255
  i2cLocLimit := 1 + Config.implementation.i2cLocLimit % 2048
  fbCap := 2 + Config.implementation.fbCap
  i2cPrimaryAbort := true
  addrPacking := .prose53

/-- The oracle's answer to call number `n` where no scripted answer is left: a free draw
(40_channel_primitives R106; assumption 2). -/
opaque Config.oracle : Nat → Reply

/-- `RES_DATA` after a failed read: a free draw (41_i2c_engine R131, 42_spi_engine R157, 93 U1;
assumption 3). -/
opaque Config.freeData : Nat → DataWord

/-- What an I2C cell holds from its write until the write is confirmed (93 U3; assumption 4). -/
opaque Config.freeCell : Nat → Byte

/-- What an SPI word holds from its write until the write is confirmed (93 U3; assumption 4). -/
opaque Config.freeWord : Nat → DataWord

/-- The address bits of the read opcode byte under `S8_LITERAL`, which D0 does not define (93 U19;
assumption 5). -/
opaque Config.s8ReadHigh : BitVec 8 → BitVec 5

/-- The low address bits of a read under `S8_LITERAL`, which D0 does not define (93 U19; assumption 5). -/
opaque Config.s8ReadLow : BitVec 8 → BitVec 3

end Sys2Proof
end

