-- ==== Sys2Proof/WellFormed.lean ====
section
/-! DEFINITION. The checks on parameters, requests and instructions that their types do not make. -/

namespace Sys2Proof

/-- The stated ranges of the parameters (00_scope R9). -/
def Params.wf (p : Params) : Bool :=
  decide (1 ≤ p.i2cRetryBudget) && decide (p.i2cRetryBudget ≤ 255) &&
  decide (1 ≤ p.spiBusyBudget) && decide (p.spiBusyBudget ≤ 255) &&
  decide (1 ≤ p.i2cLocLimit) && decide (p.i2cLocLimit ≤ 2048) && decide (2 ≤ p.fbCap)

/-- A flag whose meaning is no part of the spec (30_encoding R67; 93 U6). -/
def Options.reserved (o : Options) : Bool :=
  o.noAddress || o.fastBytes || o.fastBits

/-- No I2C flag in an SPI call, no SPI flag in an I2C call, no reserved flag in any (30_encoding R67). -/
def Options.wf (t : Target) (o : Options) : Bool :=
  !o.reserved &&
  match t with
  | .i2c _ => !o.sizeInBits && !o.chipSelectEnable && !o.chipSelectDisable
  | .spi => !o.startBit && !o.stopBit && !o.breakOnNack && !o.nackLastByte

/-- The number of leading frame-buffer bytes a request is about (10_state R27: `ceil(k/8)` for a
bit-sized transfer of `k` bits). -/
def Request.byteCount (r : Request) : Nat :=
  if r.opts.sizeInBits then (r.size + 7) / 8 else r.size

/-- The flags suit the bus, a write carries exactly its leading bytes, and a read carries none. -/
def Request.wf (r : Request) : Bool :=
  r.opts.wf r.target &&
  match r.dir with
  | .write => decide (r.buf.length = r.byteCount)
  | .read => r.buf.isEmpty

/-- The caller's duty on an operand (20_memory R41, 41_i2c_engine R120, 70_reset R212): the location of
an I2C operation is one the attached device has. The engine does not check it. Every other operand may
take every value of its width. -/
def Instr.wf (p : Params) : Instr → Bool
  | .i2cWriteByte _ loc _ => decide (loc.toNat < p.i2cLocLimit)
  | .i2cReadByte _ loc => decide (loc.toNat < p.i2cLocLimit)
  | .spiWriteWord _ _ => true
  | .spiReadWord _ => true
  | .spiFrameWriteEnable _ => true
  | .spiFrameWriteDisable _ => true
  | .spiFrameWrite _ _ _ => true
  | .spiFrameRead _ => true
  | .spiWe => true
  | .spiWrOp _ => true
  | .spiWrLo _ => true
  | .spiWrData _ _ => true
  | .spiWd => true
  | .spiRdOp _ => true
  | .spiRdLo _ => true
  | .spiRdData => true
  | .i2cPrimary _ _ _ => true
  | .i2cPoll _ _ => true
  | .i2cSetup _ _ => true
  | .i2cRead _ => true

end Sys2Proof
end

