-- ==== Sys2Proof/Decode.lean ====
section
/-! DEFINITION. The decoders of the three layers of 30_encoding (command word, channel request, wire
frame), the encoders beside them, and the numeric codes of statuses and options. -/

namespace Sys2Proof

/-! ## Bits on the wire -/

/-- The bits of a value, most significant first (20_memory R45, R46; assumption 16). -/
def bitsOf {n : Nat} (v : BitVec n) : List Bool :=
  (List.range n).map v.getMsbD

/-- A list of bits, most significant first, read as a number. -/
def natOfBits (bits : List Bool) : Nat :=
  bits.foldl (fun acc b => 2 * acc + b.toNat) 0

/-- A list of bits, most significant first, as a value of `n` bits. -/
def ofBits (n : Nat) (bits : List Bool) : BitVec n :=
  BitVec.ofNat n (natOfBits bits)

/-- The bits the request's size asks to send, in wire order: `FB[0][7]` first, `FB[1][7]` after
`FB[0][0]` (20_memory R45, R46; 30_encoding R74). -/
def Request.bits (r : Request) : List Bool :=
  (r.buf.flatMap bitsOf).take (if r.opts.sizeInBits then r.size else 8 * r.size)

/-! ## Statuses and options as numbers -/

/-- The numeric status codes (30_encoding R69; PRESUMED, assumption 15). -/
def Status.code : Status → BitVec 8
  | .ok => 0
  | .deviceNotFound => 2
  | .notOpened => 3
  | .ioError => 4
  | .insufficientResources => 5
  | .invalidParameter => 6
  | .other => 18

/-- The status a channel's code stands for; a code outside the enumeration is `Other` (30_encoding R69,
93 U18). -/
def Status.ofCode (n : Nat) : Status :=
  if n = 0 then .ok
  else if n = 2 then .deviceNotFound
  else if n = 3 then .notOpened
  else if n = 4 then .ioError
  else if n = 5 then .insufficientResources
  else if n = 6 then .invalidParameter
  else .other

/-- The option word of a call on its bus (30_encoding R66; PRESUMED, assumption 15). -/
def Options.word (t : Target) (o : Options) : BitVec 8 :=
  match t with
  | .i2c _ =>
    BitVec.ofNat 8 (o.startBit.toNat + 2 * o.stopBit.toNat + 4 * o.breakOnNack.toNat +
      8 * o.nackLastByte.toNat + 16 * o.fastBytes.toNat + 32 * o.fastBits.toNat + 64 * o.noAddress.toNat)
  | .spi =>
    BitVec.ofNat 8 (o.sizeInBits.toNat + 2 * o.chipSelectEnable.toNat + 4 * o.chipSelectDisable.toNat)

/-! ## Channel requests -/

/-- `I2C_PRIMARY` (30_encoding R72, 41_i2c_engine R124). -/
def Request.i2cPrimary (slave : BitVec 7) (reg data : Byte) : Request :=
  { target := .i2c slave, dir := .write, buf := [reg, data], size := 2,
    opts := { startBit := true, stopBit := true } }

/-- `I2C_POLL` (30_encoding R72, 41_i2c_engine R125). -/
def Request.i2cPoll (slave : BitVec 7) (reg : Byte) : Request :=
  { target := .i2c slave, dir := .write, buf := [reg], size := 1,
    opts := { startBit := true, breakOnNack := true } }

/-- `I2C_SETUP` (30_encoding R72, 41_i2c_engine R129). -/
def Request.i2cSetup (slave : BitVec 7) (reg : Byte) : Request :=
  { target := .i2c slave, dir := .write, buf := [reg], size := 1, opts := { startBit := true } }

/-- `I2C_READ` (30_encoding R72, 41_i2c_engine R130). -/
def Request.i2cRead (slave : BitVec 7) : Request :=
  { target := .i2c slave, dir := .read, buf := [], size := 1,
    opts := { startBit := true, nackLastByte := true } }

/-- A nine-bit SPI frame sent in one call: the bits left-packed into two bytes, chip select asserted and
deasserted by the call (30_encoding R74, R76, R77). -/
def Request.spiNineBits (bits : BitVec 9) : Request :=
  { target := .spi, dir := .write, buf := [bits.extractLsb' 1 8, bits.extractLsb' 0 1 ++ 0#7], size := 9,
    opts := { sizeInBits := true, chipSelectEnable := true, chipSelectDisable := true } }

/-- `SPI_WE` (30_encoding R75, R76: buffer `[0x9F, 0x00]`). -/
def Request.spiWe : Request :=
  { target := .spi, dir := .write, buf := [0x9F, 0x00], size := 9,
    opts := { sizeInBits := true, chipSelectEnable := true, chipSelectDisable := true } }

/-- `SPI_WD` (30_encoding R75, R77: buffer `[0x87, 0x00]`). -/
def Request.spiWd : Request :=
  { target := .spi, dir := .write, buf := [0x87, 0x00], size := 9,
    opts := { sizeInBits := true, chipSelectEnable := true, chipSelectDisable := true } }

/-- `SPI_WR_OP` (30_encoding R75, R80: `0xA0` with the address bits in bits 4:0). -/
def Request.spiWrOp (a : BitVec 5) : Request :=
  { target := .spi, dir := .write, buf := [0xA0#8 ||| a.setWidth 8], size := 1,
    opts := { chipSelectEnable := true } }

/-- `SPI_WR_LO` (30_encoding R75, R80: three bits left-packed). -/
def Request.spiWrLo (b : BitVec 3) : Request :=
  { target := .spi, dir := .write, buf := [b.setWidth 8 <<< 5], size := 3,
    opts := { sizeInBits := true } }

/-- `SPI_WR_DATA` (30_encoding R75, R82: low byte first). -/
def Request.spiWrData (lo hi : Byte) : Request :=
  { target := .spi, dir := .write, buf := [lo, hi], size := 2, opts := { chipSelectDisable := true } }

/-- `SPI_STROBE` (30_encoding R75, R84). -/
def Request.spiStrobe : Request :=
  { target := .spi, dir := .write, buf := [], size := 0, opts := { chipSelectEnable := true } }

/-- `SPI_RELEASE` (30_encoding R75, R84). -/
def Request.spiRelease : Request :=
  { target := .spi, dir := .write, buf := [], size := 0, opts := { chipSelectDisable := true } }

/-- `SPI_RD_OP` (30_encoding R75, R80: `0xC0` with the address bits in bits 4:0). -/
def Request.spiRdOp (a : BitVec 5) : Request :=
  { target := .spi, dir := .write, buf := [0xC0#8 ||| a.setWidth 8], size := 1,
    opts := { chipSelectEnable := true } }

/-- `SPI_RD_LO` (30_encoding R75, R79: three address bits left-packed, then the dummy bit 0). -/
def Request.spiRdLo (b : BitVec 3) : Request :=
  { target := .spi, dir := .write, buf := [b.setWidth 8 <<< 5], size := 4,
    opts := { sizeInBits := true } }

/-- `SPI_RD_DATA` (30_encoding R75, 42_spi_engine R156). -/
def Request.spiRdData : Request :=
  { target := .spi, dir := .read, buf := [], size := 2, opts := { chipSelectDisable := true } }

/-! ## The decoders -/

/-- The command word's decoder: match and mask of 30_encoding R62, fields of R61; a word with a one in a
must-be-zero field is illegal (R63). -/
def decodeCommand (w : CommandWord) : Except DecodeError Instr :=
  if w &&& 0xC0780000#32 = 0x00000000#32 then
    .ok (.i2cWriteByte (w.extractLsb' 23 7) (w.extractLsb' 8 11) (w.extractLsb' 0 8))
  else if w &&& 0xC07800FF#32 = 0x40000000#32 then
    .ok (.i2cReadByte (w.extractLsb' 23 7) (w.extractLsb' 8 11))
  else if w &&& 0xFF000000#32 = 0x80000000#32 then
    .ok (.spiWriteWord (w.extractLsb' 16 8) (w.extractLsb' 0 16))
  else if w &&& 0xFF00FFFF#32 = 0xC0000000#32 then
    .ok (.spiReadWord (w.extractLsb' 16 8))
  else .error .illegalCommand

/-- The I2C frame a request is (30_encoding R72): the option set and the size tell the four apart. -/
def decodeI2cRequest (slave : BitVec 7) (r : Request) : Except DecodeError Instr :=
  match r.dir, r.buf with
  | .write, [reg, data] =>
    if r = .i2cPrimary slave reg data then .ok (.i2cPrimary slave reg data) else .error .unknownRequest
  | .write, [reg] =>
    if r = .i2cPoll slave reg then .ok (.i2cPoll slave reg)
    else if r = .i2cSetup slave reg then .ok (.i2cSetup slave reg)
    else .error .unknownRequest
  | .read, [] => if r = .i2cRead slave then .ok (.i2cRead slave) else .error .unknownRequest
  | _, _ => .error .unknownRequest

/-- The SPI phase a request is (30_encoding R75, R85): the option set, the size and the opcode bits tell
them apart. -/
def decodeSpiRequest (r : Request) : Except DecodeError Instr :=
  match r.dir, r.buf with
  | .write, [x, y] =>
    if r = .spiWe then .ok .spiWe
    else if r = .spiWd then .ok .spiWd
    else if r = .spiWrData x y then .ok (.spiWrData x y)
    else .error .unknownRequest
  | .write, [x] =>
    if r = .spiWrOp (x.setWidth 5) then .ok (.spiWrOp (x.setWidth 5))
    else if r = .spiRdOp (x.setWidth 5) then .ok (.spiRdOp (x.setWidth 5))
    else if r = .spiWrLo (x.extractLsb' 5 3) then .ok (.spiWrLo (x.extractLsb' 5 3))
    else if r = .spiRdLo (x.extractLsb' 5 3) then .ok (.spiRdLo (x.extractLsb' 5 3))
    else .error .unknownRequest
  | .write, [] =>
    if r = .spiStrobe ∨ r = .spiRelease then .error .chipSelectOnly else .error .unknownRequest
  | .read, [] => if r = .spiRdData then .ok .spiRdData else .error .unknownRequest
  | _, _ => .error .unknownRequest

/-- The phase a channel request is; one that carries a flag without a meaning is refused (93 U6). -/
def decodeRequest (r : Request) : Except DecodeError Instr :=
  if r.opts.reserved then .error .reservedFlag
  else match r.target with
    | .i2c slave => decodeI2cRequest slave r
    | .spi => decodeSpiRequest r

/-- The SPI frame the bits of one chip-select assertion are (30_encoding R76 to R79): the length and the
opcode bits tell them apart (R85). The `x` bits may hold any value (R83); the dummy bit is 0 (R79). -/
def decodeWire (bits : List Bool) : Except DecodeError Instr :=
  if bits.length = 9 then
    let w := ofBits 9 bits
    if w.extractLsb' 4 5 = 0b10011#5 then .ok (.spiFrameWriteEnable (w.extractLsb' 0 4))
    else if w.extractLsb' 4 5 = 0b10000#5 then .ok (.spiFrameWriteDisable (w.extractLsb' 0 4))
    else .error .unknownFrame
  else if bits.length = 27 then
    let w := ofBits 27 bits
    if w.extractLsb' 24 3 = 0b101#3 then
      .ok (.spiFrameWrite (w.extractLsb' 16 8) (w.extractLsb' 8 8) (w.extractLsb' 0 8))
    else .error .unknownFrame
  else if bits.length = 12 then
    let w := ofBits 12 bits
    if w.extractLsb' 9 3 = 0b110#3 ∧ w.extractLsb' 0 1 = 0#1 then .ok (.spiFrameRead (w.extractLsb' 1 8))
    else .error .unknownFrame
  else .error .unknownFrame

/-- The decoder: total, refusing by name. -/
def decode : Encoded → Except DecodeError Instr
  | .command w => decodeCommand w
  | .request r => decodeRequest r
  | .wire bits => decodeWire bits

/-! ## The encoders -/

/-- The command word of an I2C operation, format `HC-I` (30_encoding R61). -/
def commandI (op : BitVec 2) (dev : BitVec 7) (loc : BitVec 11) (data : Byte) : CommandWord :=
  op ++ dev ++ 0#4 ++ loc ++ data

/-- The command word of an SPI operation, format `HC-S` (30_encoding R61). -/
def commandS (op : BitVec 2) (addr : BitVec 8) (data : DataWord) : CommandWord :=
  op ++ 0#6 ++ addr ++ data

/-- The encoder, from the same tables: 30_encoding R62 (commands), R72 and R75 (requests), R76 to R79
(wire frames). -/
def encode : Instr → Encoded
  | .i2cWriteByte dev loc data => .command (commandI 0b00#2 dev loc data)
  | .i2cReadByte dev loc => .command (commandI 0b01#2 dev loc 0)
  | .spiWriteWord addr data => .command (commandS 0b10#2 addr data)
  | .spiReadWord addr => .command (commandS 0b11#2 addr 0)
  | .spiFrameWriteEnable x => .wire (bitsOf (0b10011#5 ++ x))
  | .spiFrameWriteDisable x => .wire (bitsOf (0b10000#5 ++ x))
  | .spiFrameWrite a lo hi => .wire (bitsOf (0b101#3 ++ a ++ lo ++ hi))
  | .spiFrameRead a => .wire (bitsOf (0b110#3 ++ a ++ 0#1))
  | .spiWe => .request .spiWe
  | .spiWrOp a => .request (.spiWrOp a)
  | .spiWrLo b => .request (.spiWrLo b)
  | .spiWrData lo hi => .request (.spiWrData lo hi)
  | .spiWd => .request .spiWd
  | .spiRdOp a => .request (.spiRdOp a)
  | .spiRdLo b => .request (.spiRdLo b)
  | .spiRdData => .request .spiRdData
  | .i2cPrimary slave reg data => .request (.i2cPrimary slave reg data)
  | .i2cPoll slave reg => .request (.i2cPoll slave reg)
  | .i2cSetup slave reg => .request (.i2cSetup slave reg)
  | .i2cRead slave => .request (.i2cRead slave)

/-! ## The opcode table's words -/

/-- The instruction an 8-bit table word is. The table tells its 8-, 4- and 3-bit rows apart by the
request around them, not by their bits: an opcode byte first, then a 3-bit or a 4-bit payload, then the
payload byte of a poll (assumption 6). -/
def decodeTableByte (w : Nat) : Instr :=
  let byte := BitVec.ofNat 8 w
  if byte.extractLsb' 5 3 = 0b101#3 then .spiWrOp (byte.setWidth 5)
  else if byte.extractLsb' 5 3 = 0b110#3 then .spiRdOp (byte.setWidth 5)
  else if w < 8 then .spiWrLo (BitVec.ofNat 3 w)
  else if w < 16 ∧ w % 2 = 0 then .spiRdLo (BitVec.ofNat 3 (w / 2))
  else .i2cPoll 0 byte

/-- The instruction a 16-bit table word is: the two fixed 9-bit phases, the 9- and 12-bit frames, then
the 16-bit data payload (assumption 6). -/
def decodeTableHalf (w : Nat) : Instr :=
  if w = 0b100111110 then .spiWe
  else if w = 0b100001110 then .spiWd
  else
    let short := if w < 2 ^ 9 then decodeWire (bitsOf (BitVec.ofNat 9 w))
      else if w < 2 ^ 12 then decodeWire (bitsOf (BitVec.ofNat 12 w))
      else .error .unknownFrame
    match short with
    | .ok i => i
    | .error _ => .spiWrData (BitVec.ofNat 8 (w / 256)) (BitVec.ofNat 8 w)

/-- The instruction the decoder reads from a table word of `nbits` bits, the row's pattern read as one
number (98_reader). 32 bits are a command word. -/
def decodeTableWord (nbits w : Nat) : Option Instr :=
  if nbits = 32 then
    match decodeCommand (BitVec.ofNat 32 w) with
    | .ok i => some i
    | .error _ => none
  else if nbits = 16 then some (decodeTableHalf w)
  else if nbits = 8 then some (decodeTableByte w)
  else none

end Sys2Proof
end

