-- ==== Sys2Proof/Machine/State.lean ====
section
/-! DEFINITION. The machine's state, the state after reset, and the reasons a step can stop. -/

namespace Sys2Proof.Machine

/-- The engine's activity (10_state R23). -/
inductive EngineState where
  | idle
  | running
  deriving DecidableEq, Repr, Inhabited

/-- Everything the spec gives the machine. Operand registers (10_state R21), result registers (R22),
sequencing state (R23, R25, R26, R27), handle inputs (R24), what the channels and the devices hold
(R31), and the model's own fields: the parameters (00_scope R9), the second sub-step of a phase (R25),
the record that the ready line has been seen ready since the last SPI transfer (20_memory R56), the
environment's moves still to come, the oracle's scripted answers, the number of channel calls made, and
the trace (00_scope R8, R15); assumption 25. -/
structure State where
  params : Params
  argOp : BitVec 2
  argDev : BitVec 7
  argLoc : BitVec 11
  argAddr : BitVec 8
  argData : BitVec 16
  resStatus : BitVec 8
  resData : BitVec 16
  resBusy : Bool
  resRetries : BitVec 8
  resDone : Bool
  engine : EngineState
  phase : BitVec 4
  polling : Bool
  retry : BitVec 8
  busyLast : Bool
  fb : List Byte
  i2cChValid : Bool
  spiChValid : Bool
  i2cLine : I2cLine
  i2cPending : Option (Nat × Byte)
  i2cMem : Cells 8
  spiLine : SpiLine
  spiPending : Option (Nat × DataWord)
  spiMem : Cells 16
  spiReadySeen : Bool
  inputs : List Input
  replies : List Reply
  draws : Nat
  trace : List Call
  deriving DecidableEq, Repr, Inhabited

/-- The state after reset (10_state R35, 70_reset R200). The values of `ENGINE`, `PHASE`, `RETRY`,
`BUSYLAST`, `RES_DONE` and the two handle inputs are the spec's; every other is the one named in
assumption 7. -/
def State.reset : State where
  params := Config.params
  argOp := 0
  argDev := 0
  argLoc := 0
  argAddr := 0
  argData := 0
  resStatus := 0
  resData := 0
  resBusy := false
  resRetries := 0
  resDone := false
  engine := .idle
  phase := 0
  polling := false
  retry := 0
  busyLast := false
  fb := List.replicate Config.params.fbCap 0
  i2cChValid := false
  spiChValid := false
  i2cLine := { opened := false, cycle := false }
  i2cPending := none
  i2cMem := []
  spiLine := { cs := false, wire := [], enabled := false, cycle := false }
  spiPending := none
  spiMem := []
  spiReadySeen := false
  inputs := []
  replies := []
  draws := 0
  trace := []

/-- Why the machine stops with a fault. -/
inductive Fault where
  /-- Raised by every channel call whose answer is that it never returns (40_channel_primitives R113,
  70_reset R214, 93 U8: stuck, no step is enabled; assumption 10). Safe: the model stops where the
  block hangs. -/
  | callNeverReturns
  /-- Raised by the sequencer where `PHASE` is no phase of the running operation. No run reaches such a
  state. Safe: the model stops. -/
  | phaseOutOfTable
  deriving DecidableEq, Repr

/-- Why the machine gives an instruction no meaning. -/
inductive Refusal where
  /-- Raised by an arm of `exec` for an instruction that has no meaning yet; no arm is left so. Safe. -/
  | notModelled (mnemonic : String)
  /-- Raised by the sequencer for a phase word its own decoder refuses (93 U6); the sequencer makes no
  such word. Safe. -/
  | undecodable (e : DecodeError)
  deriving DecidableEq, Repr

end Sys2Proof.Machine
end

