-- ==== Sys2Proof/Machine/Operands.lean ====
section
/-! DEFINITION. What the engine computes from the operand registers: the I2C address fold, the SPI
address packing, the data packing, and the words each phase and frame is fetched as. -/

namespace Sys2Proof.Machine

/-- `SLAVE` (30_encoding R70; 93 U9: the formula stands as written). -/
def slaveOf (dev : BitVec 7) (loc : BitVec 11) : BitVec 7 :=
  dev ||| ((loc >>> 7) &&& 0x0E#11).setWidth 7

/-- `REG` (30_encoding R70). -/
def regOf (loc : BitVec 11) : Byte :=
  (loc &&& 0xFF#11).setWidth 8

/-- The address byte the I2C channel forms from `SLAVE` and the direction (30_encoding R71; PRESUMED,
assumption 15). -/
def i2cAddressByte (slave : BitVec 7) (dir : Direction) : Byte :=
  slave ++ (match dir with | .write => 0#1 | .read => 1#1)

/-- `hi5(A)` (30_encoding R80). -/
def hi5 (addr : BitVec 8) : BitVec 5 :=
  ((addr >>> 3) &&& 0x1F#8).setWidth 5

/-- The three bits that `lo3(A)` holds in bits 7:5 (30_encoding R80). -/
def lo3 (addr : BitVec 8) : BitVec 3 :=
  ((addr &&& 0x07#8) <<< 5).extractLsb' 5 3

/-- The address bits in the opcode byte of a write (30_encoding R80, both packings). -/
def writeHigh (p : AddrPacking) (addr : BitVec 8) : BitVec 5 :=
  match p with
  | .prose53 => hi5 addr
  | .s8Literal => ((addr >>> 1) &&& 0x0F#8).setWidth 5

/-- The bits 7:5 of the low-address byte of a write (30_encoding R80, both packings; under `S8_LITERAL`
the shifted value is cut to a byte). -/
def writeLow (p : AddrPacking) (addr : BitVec 8) : BitVec 3 :=
  match p with
  | .prose53 => lo3 addr
  | .s8Literal => ((addr &&& 0x07#8) <<< 7).extractLsb' 5 3

/-- The address bits in the opcode byte of a read (30_encoding R80); under `S8_LITERAL` a free value
(93 U19). -/
def readHigh (p : AddrPacking) (addr : BitVec 8) : BitVec 5 :=
  match p with
  | .prose53 => hi5 addr
  | .s8Literal => Config.s8ReadHigh addr

/-- The bits 7:5 of the low-address byte of a read (30_encoding R80); under `S8_LITERAL` a free value
(93 U19). -/
def readLow (p : AddrPacking) (addr : BitVec 8) : BitVec 3 :=
  match p with
  | .prose53 => lo3 addr
  | .s8Literal => Config.s8ReadLow addr

/-- The first data byte of a word, `D[7:0]` (30_encoding R82). -/
def wordLow (d : DataWord) : Byte :=
  d.setWidth 8

/-- The second data byte of a word, `D[15:8]` (30_encoding R82). -/
def wordHigh (d : DataWord) : Byte :=
  (d >>> 8).setWidth 8

/-- The word read from the two received bytes, `(FB[1] << 8) | FB[0]` (30_encoding R82). -/
def joinWord (lo hi : Byte) : DataWord :=
  (hi.setWidth 16 <<< 8) ||| lo.setWidth 16

/-- Byte `i` of the frame buffer; 0 beyond its end. -/
def fbByte (s : State) (i : Nat) : Byte :=
  s.fb.getD i 0

/-- `SLAVE` of the running operation (10_state R28). -/
def State.slave (s : State) : BitVec 7 :=
  slaveOf s.argDev s.argLoc

/-- `REG` of the running operation (10_state R28). -/
def State.reg (s : State) : Byte :=
  regOf s.argLoc

/-- The place of an I2C cell in the device array: one cell for each slave address and register
(20_memory R53). -/
def i2cCell (slave : BitVec 7) (reg : Byte) : Nat :=
  256 * slave.toNat + reg.toNat

/-- One symbol of an I2C frame on the wire (30_encoding R72; PRESUMED, assumption 15). -/
inductive I2cSymbol where
  | start
  | repeatedStart
  | byte (b : Byte)
  | deviceAck
  | controllerNack
  | stop
  deriving DecidableEq, Repr

/-- The symbols of a completed I2C call (30_encoding R72, 40_channel_primitives R108): START (repeated
where one is open) and the address byte, the data bytes, STOP. -/
def i2cSymbols (opened : Bool) (slave : BitVec 7) (r : Request) (received : List Byte) :
    List I2cSymbol :=
  (if r.opts.startBit then
    [if opened then .repeatedStart else .start, .byte (i2cAddressByte slave r.dir), .deviceAck]
   else []) ++
  (match r.dir with
   | .write => r.buf.flatMap fun b => [.byte b, .deviceAck]
   | .read => received.map .byte ++ if r.opts.nackLastByte then [.controllerNack] else []) ++
  (if r.opts.stopBit then [.stop] else [])

end Sys2Proof.Machine
end

