-- ==== Sys2Proof/Machine/Flags.lean ====
section
/-! DEFINITION. The status the engine tests, and what the option flags of a call do to the channel and
to the device behind it. -/

namespace Sys2Proof.Machine

/-- The effective status of a transfer (40_channel_primitives R104, 60_exceptions R174). -/
def eff (st : Status) (moved size : Nat) : Status :=
  if st = .ok then if moved = size then .ok else .other else st

/-- `CS` after an SPI call that did what its flags say (40_channel_primitives R107). -/
def csAfter (o : Options) (cs : Bool) : Bool :=
  if o.chipSelectDisable then false else if o.chipSelectEnable then true else cs

/-- `I2C_OPEN` after an I2C call that did what its flags say (40_channel_primitives R108). -/
def openAfter (o : Options) (opened : Bool) : Bool :=
  if o.stopBit then false else if o.startBit then true else opened

/-- The I2C line after a call with effective status `e`: by the flags where the call succeeded, the
oracle's where it did not (93 U2, U11; assumption 11). -/
def i2cLineAfter (r : Request) (e : Status) (a : Reply) (l : I2cLine) : I2cLine :=
  if e = .ok then { l with opened := openAfter r.opts l.opened } else a.i2cAfter

/-- The call asserts chip select where it is asserted, or deasserts it where it is not (93 U5;
assumption 12). -/
def csMisused (o : Options) (cs : Bool) : Bool :=
  (o.chipSelectEnable && cs) || (o.chipSelectDisable && !(cs || o.chipSelectEnable))

/-- The bits since chip select was asserted, the call's own included: a physical transaction may span
several calls (40_channel_primitives R107). -/
def wireAfter (r : Request) (l : SpiLine) : List Bool :=
  (if r.opts.chipSelectEnable then [] else l.wire) ++ r.bits

/-- The device's part of the line left open: the oracle's (93 U2, U5, U10). -/
def deviceOpen (a : Reply) (l : SpiLine) : SpiLine :=
  { l with enabled := a.spiAfter.enabled, cycle := a.spiAfter.cycle }

/-- What a frame does to the device when chip select is deasserted at its end: Write-Enable enables
writing (42_spi_engine R143), Write-Disable protects (R150; unconstrained while a write is in progress,
93 U10), a write frame starts the write cycle (R146), a read frame and an empty one change nothing; what
any other string of bits does is the oracle's (93 U5; assumption 9). -/
def frameEffect (wire : List Bool) (a : Reply) (l : SpiLine) : SpiLine :=
  if wire = [] then l
  else match decodeWire wire with
    | .ok (.spiFrameWriteEnable _) => { l with enabled := true }
    | .ok (.spiFrameWriteDisable _) => if l.cycle then deviceOpen a l else { l with enabled := false }
    | .ok (.spiFrameWrite _ _ _) => { l with cycle := true }
    | .ok (.spiFrameRead _) => l
    | _ => deviceOpen a l

/-- The SPI line after a call with effective status `e`: by the flags where the call succeeded, the
oracle's where it did not (40_channel_primitives R107; 93 U2, U5, U11; assumption 11). -/
def spiLineAfter (r : Request) (e : Status) (a : Reply) (l : SpiLine) : SpiLine :=
  if e = .ok then
    let device :=
      if csMisused r.opts l.cs then deviceOpen a l
      else if r.opts.chipSelectDisable then frameEffect (wireAfter r l) a l
      else l
    { device with
      cs := csAfter r.opts l.cs
      wire := if r.opts.chipSelectDisable then [] else wireAfter r l }
  else a.spiAfter

/-- The word a call's frame writes, where a write call ends a write frame: the address and the word
(30_encoding R78). -/
def frameWrites (r : Request) (l : SpiLine) : Option (Nat × DataWord) :=
  if r.opts.chipSelectDisable ∧ r.dir = .write then
    match decodeWire (wireAfter r l) with
    | .ok (.spiFrameWrite a lo hi) => some (a.toNat, joinWord lo hi)
    | _ => none
  else none

/-- The call ends a Write-Disable frame while the device is still writing (93 U10). -/
def disablesBusyDevice (r : Request) (l : SpiLine) : Bool :=
  l.cycle && r.opts.chipSelectDisable &&
    match decodeWire (wireAfter r l) with
    | .ok (.spiFrameWriteDisable _) => true
    | _ => false

end Sys2Proof.Machine
end

