-- ==== Sys2Proof/Machine/Ops.lean ====
section
/-! DEFINITION. The named operations the meanings are made of: the device arrays, the frame buffer, the
channel calls, accepting a command, and ending an operation. -/

namespace Sys2Proof.Machine

/-! ## Device arrays -/

/-- The content of a cell, where it is known. An address that is not listed has none (assumption 8). -/
def readCell {w : Nat} (m : Cells w) (addr : Nat) : Option (BitVec w) :=
  match m with
  | [] => none
  | (k, v) :: rest => if k = addr then some v else readCell rest addr

/-- Sets the content of a cell, keeping the addresses strictly rising. -/
def writeCell {w : Nat} (m : Cells w) (addr : Nat) (v : BitVec w) : Cells w :=
  match m with
  | [] => [(addr, v)]
  | (k, u) :: rest =>
    if addr < k then (addr, v) :: (k, u) :: rest
    else if addr = k then (addr, v) :: rest
    else (k, u) :: writeCell rest addr v

/-- The canonical form: addresses strictly rising, all below the size of the space. -/
def cellsWf {w : Nat} (size : Nat) (m : Cells w) : Bool :=
  decide (m.Pairwise fun x y => x.1 < y.1) && m.all fun x => decide (x.1 < size)

/-- The number of I2C cells: a slave address and a register byte (20_memory R40, R53). -/
def i2cCells : Nat := 32768

/-- The number of SPI words: eight address bits (20_memory R42). -/
def spiWords : Nat := 256

/-- Both device arrays are in canonical form. -/
def memWf (s : State) : Bool :=
  cellsWf i2cCells s.i2cMem && cellsWf spiWords s.spiMem

/-- The content of the I2C device's cell at a slave address and register. -/
def readI2c (s : State) (slave : BitVec 7) (reg : Byte) : Option Byte :=
  readCell s.i2cMem (i2cCell slave reg)

/-- The SPI device once what the ready line has shown is taken into account (20_memory R56; assumption
22): seen ready, its write cycle has ended and the write it was performing has committed. The device did
so by itself, before the line was sampled (10_state R31); sampling it changes nothing
(40_channel_primitives R102). -/
def settleSpi (s : State) : State :=
  { s with
    spiLine := { s.spiLine with cycle := s.spiLine.cycle && !s.spiReadySeen }
    spiMem := if s.spiReadySeen then
        match s.spiPending with
        | some (addr, v) => writeCell s.spiMem addr v
        | none => s.spiMem
      else s.spiMem
    spiPending := if s.spiReadySeen then none else s.spiPending
    spiReadySeen := false }

/-- The content of the SPI device's word at an address. -/
def readSpi (s : State) (addr : BitVec 8) : Option DataWord :=
  readCell (settleSpi s).spiMem addr.toNat

/-! ## The frame buffer -/

/-- The first bytes of a buffer replaced, its length kept. -/
def overlay (lead buf : List Byte) : List Byte :=
  lead.take buf.length ++ buf.drop lead.length

/-- `zeroFB()` (10_state R27). -/
def zeroFB (s : State) : State :=
  { s with fb := List.replicate s.params.fbCap 0 }

/-- `zeroFB()`, then the phase's leading bytes (10_state R27). -/
def loadFB (lead : List Byte) (s : State) : State :=
  { zeroFB s with fb := overlay lead (zeroFB s).fb }

/-! ## Channel calls -/

/-- The answer the next channel call gets: the script's next, or a free draw where the script is at its
end (40_channel_primitives R106; assumption 2). -/
def nextReply (s : State) : Reply :=
  match s.replies with
  | [] => Config.oracle s.draws
  | a :: _ => a

/-- The answer is used up. -/
def consumeReply (s : State) : State :=
  { s with replies := s.replies.tail, draws := s.draws + 1 }

/-- What a channel call gives the engine: nothing for ever, or an effective status. -/
inductive CallResult where
  | stuck
  | answered (e : Status) (s : State)
  deriving DecidableEq, Repr

/-- The leading part of the buffer after a read call (40_channel_primitives R101, R111; 00_scope R15): the
bytes the answer delivers, as many as were asked for; one it does not deliver reads as the 0 of `zeroFB`
(10_state R27). A write leaves none. -/
def received (r : Request) (a : Reply) : List Byte :=
  match r.dir with
  | .write => []
  | .read => (a.bytes ++ List.replicate r.byteCount 0).take r.byteCount

/-- The effective status of the answer to a transfer (40_channel_primitives R104). -/
def replyStatus (r : Request) (a : Reply) : Status :=
  eff (Status.ofCode a.code) a.moved r.size

/-- The call as the trace records it (00_scope R15): for a read with the leading part of the buffer. -/
def recordOf (r : Request) (a : Reply) : Call :=
  .xfer r (Status.ofCode a.code) a.moved (received r a)

/-- A transfer on the I2C channel has returned (40_channel_primitives R100, R101, R108). -/
def afterI2cCall (r : Request) (a : Reply) (s : State) : State :=
  { consumeReply s with
    fb := overlay (received r a) s.fb
    trace := s.trace ++ [recordOf r a]
    i2cLine := i2cLineAfter r (replyStatus r a) a s.i2cLine }

/-- The device's array after a call: where the call misused chip select no content is known any more (93
U5, assumption 12); where it ends a write frame the word is unknown until the ready line confirms it
(20_memory R56, 93 U3). -/
def spiMemAfter (r : Request) (s : State) : Cells 16 :=
  if csMisused r.opts s.spiLine.cs then []
  else match frameWrites r s.spiLine with
    | some (addr, _) => writeCell s.spiMem addr (Config.freeWord s.draws)
    | none => s.spiMem

/-- The write the device is performing after a call: that of a write frame which arrived whole; none
that could be confirmed where the frame is in doubt, chip select was misused (93 U5) or a busy device was
write-disabled (93 U10). -/
def spiPendingAfter (r : Request) (a : Reply) (s : State) : Option (Nat × DataWord) :=
  if csMisused r.opts s.spiLine.cs then none
  else match frameWrites r s.spiLine with
    | some write => if replyStatus r a = .ok then some write else none
    | none => if disablesBusyDevice r s.spiLine then none else s.spiPending

/-- A transfer on the SPI channel has returned (40_channel_primitives R100, R101, R107); the device it
found is the settled one. -/
def afterSpiCall (r : Request) (a : Reply) (s : State) : State :=
  { consumeReply s with
    fb := overlay (received r a) s.fb
    trace := s.trace ++ [recordOf r a]
    spiLine := spiLineAfter r (replyStatus r a) a (settleSpi s).spiLine
    spiMem := spiMemAfter r (settleSpi s)
    spiPending := spiPendingAfter r a (settleSpi s)
    spiReadySeen := false }

/-- The state after a transfer has returned. -/
def afterCall (r : Request) (a : Reply) (s : State) : State :=
  match r.target with
  | .i2c _ => afterI2cCall r a s
  | .spi => afterSpiCall r a s

/-- `XferW` and `XferR` (40_channel_primitives R100, R101): one blocking call, its effective status
(R104). A call that never returns leaves the engine without a step (R113; assumption 10). -/
def xfer (r : Request) (s : State) : CallResult :=
  if (nextReply s).returns then
    .answered (replyStatus r (nextReply s)) (afterCall r (nextReply s) s)
  else .stuck

/-- Phase `k` makes its call: `PHASE <- k`, `zeroFB()`, the leading bytes, the transfer
(10_state R25, R27; assumption 13). -/
def callPhase (k : BitVec 4) (r : Request) (s : State) : CallResult :=
  xfer r { loadFB r.buf s with phase := k }

/-! ## Accepting a command and ending an operation -/

/-- A command is accepted (10_state R23; 30_encoding R61): the operand registers loaded together, the
sequencing state initialised. -/
def accept (op : BitVec 2) (dev : BitVec 7) (loc : BitVec 11) (addr : BitVec 8) (data : DataWord)
    (s : State) : State :=
  { s with
    argOp := op, argDev := dev, argLoc := loc, argAddr := addr, argData := data
    resDone := false, engine := .running, phase := 0, polling := false, retry := 0, busyLast := false }

/-- The end of an operation, `done(st)` or `abort(st)` (00_scope R14, 60_exceptions R175): the result
registers written, the engine idle. This is all the block has for taking an exception; nothing is saved
and nothing returns from it (R181). -/
def finish (st : Status) (data : DataWord) (busy : Bool) (retries : BitVec 8) (s : State) : State :=
  { s with
    resStatus := st.code, resData := data, resBusy := busy, resRetries := retries, resDone := true
    engine := .idle, polling := false }

/-- `abort(st)` where the spec gives `RES_DATA` no value: a free draw (41_i2c_engine R131, 42_spi_engine
R157, 93 U1). -/
def abortRead (st : Status) (s : State) : State :=
  finish st (Config.freeData s.draws) false 0 s

/-- `fail(e)` of `SPI_WRITE_WORD` (42_spi_engine R142). -/
def failSpiWrite (st : Status) (s : State) : State :=
  finish st 0 s.busyLast s.retry s

/-- The handle input of a bus (10_state R24). -/
def handleOf (bus : Bus) (s : State) : Bool :=
  match bus with
  | .i2c => s.i2cChValid
  | .spi => s.spiChValid

/-- A command is accepted and the handle sampled (10_state R24; 60_exceptions R172): without a handle the
operation ends at once with `NotOpened` and no call. -/
def start (bus : Bus) (op : BitVec 2) (dev : BitVec 7) (loc : BitVec 11) (addr : BitVec 8)
    (data : DataWord) (s : State) : State :=
  if handleOf bus s then accept op dev loc addr data s
  else finish .notOpened 0 false 0 (accept op dev loc addr data s)

/-- An illegal command word (30_encoding R63, 60_exceptions R173). -/
def illegalCommand (s : State) : State :=
  { s with
    resStatus := Status.invalidParameter.code, resData := 0, resBusy := false, resRetries := 0
    resDone := true }

/-! ## Phases in a row -/

/-- How a phase ends: stuck in its call, with the operation ended, or with the next phase to come. -/
inductive Flow where
  | stuck
  | stopped (s : State)
  | passed (s : State)
  deriving DecidableEq, Repr

/-- A flow as the outcome of a step. -/
def flowOutcome (f : Flow) : Host.Outcome State Fault Refusal :=
  match f with
  | .stuck => .fault .callNeverReturns
  | .stopped s => .next s
  | .passed s => .next s

/-- The next phase runs only where the one before it passed (60_exceptions R175). -/
def andThen (f : Flow) (next : State → Flow) : Flow :=
  match f with
  | .stuck => .stuck
  | .stopped s => .stopped s
  | .passed s => next s

/-- A phase whose failure ends the operation: on `OK` the sequencer moves on by one, else `fail` ends it
(10_state R25, 60_exceptions R175). -/
def phaseStep (k : BitVec 4) (r : Request) (fail : Status → State → State) (s : State) : Flow :=
  match callPhase k r s with
  | .stuck => .stuck
  | .answered e t => if e = .ok then .passed { t with phase := k + 1 } else .stopped (fail e t)

/-! ## Device writes and their confirmation -/

/-- The location of the running I2C operation is one the attached device has (20_memory R41). The engine
does not ask; the device's part of the model does. -/
def locationInRange (s : State) : Bool :=
  decide (s.argLoc.toNat < s.params.i2cLocLimit)

/-- The I2C device has been sent a primary write (10_state R31, 20_memory R56, 93 U3): its cell is
unknown until a poll is acknowledged (assumption 4); where the write arrived whole its write cycle
begins. What the device does with a location it does not have is the oracle's (20_memory R41, 93 U7): no
cell of it is known any more, and no write that a poll could confirm (assumption 26). -/
def latchI2c (slave : BitVec 7) (reg data : Byte) (e : Status) (a : Reply) (s : State) : State :=
  { s with
    i2cMem := if locationInRange s then
        writeCell s.i2cMem (i2cCell slave reg) (Config.freeCell s.draws)
      else []
    i2cPending := if e = .ok ∧ locationInRange s then some (i2cCell slave reg, data) else none
    i2cLine := if e = .ok then { s.i2cLine with cycle := locationInRange s || a.i2cAfter.cycle }
      else s.i2cLine }

/-- An acknowledged poll: the write has committed (41_i2c_engine R125; assumption 23). -/
def confirmI2c (s : State) : State :=
  { s with
    i2cMem := match s.i2cPending with
      | some (addr, v) => writeCell s.i2cMem addr v
      | none => s.i2cMem
    i2cPending := none
    i2cLine := { s.i2cLine with cycle := false } }

/-- The ready line has been sampled (40_channel_primitives R102): the channel and the device stay as they
are. That a device selected was seen ready is kept for whoever asks what it holds (20_memory R56;
assumption 22). -/
def noteReady (busy : Bool) (s : State) : State :=
  { s with spiReadySeen := s.spiReadySeen || (s.spiLine.cs && !busy) }

/-- `IsBusy()` has returned: one more poll (10_state R26), the call recorded. -/
def afterIsBusy (a : Reply) (s : State) : State :=
  { consumeReply s with
    retry := s.retry + 1
    trace := s.trace ++ [.isBusy (Status.ofCode a.code) a.busy] }

end Sys2Proof.Machine
end

