-- ==== Sys2Proof/Machine/HostCommands.lean ====
section
/-! DEFINITION. The four host commands: each is accepted, or ended at once for want of a handle. The
phases of the operation are the sequencer's next turns. -/

namespace Sys2Proof.Machine

/-- `I2C_WRITE_BYTE` (41_i2c_engine R123; 10_state R23, R24): accepted, `ARG_DATA[15:8]` zero. -/
def execI2cWriteByte (dev : BitVec 7) (loc : BitVec 11) (data : Byte) (s : State) :
    Host.Outcome State Fault Refusal :=
  .next (start .i2c 0 dev loc 0 (data.setWidth 16) s)

/-- `I2C_READ_BYTE` (41_i2c_engine R128; 10_state R23, R24). -/
def execI2cReadByte (dev : BitVec 7) (loc : BitVec 11) (s : State) :
    Host.Outcome State Fault Refusal :=
  .next (start .i2c 1 dev loc 0 0 s)

/-- `SPI_WRITE_WORD` (42_spi_engine R142; 10_state R23, R24). -/
def execSpiWriteWord (addr : BitVec 8) (data : DataWord) (s : State) :
    Host.Outcome State Fault Refusal :=
  .next (start .spi 2 0 0 addr data s)

/-- `SPI_READ_WORD` (42_spi_engine R153; 10_state R23, R24). -/
def execSpiReadWord (addr : BitVec 8) (s : State) : Host.Outcome State Fault Refusal :=
  .next (start .spi 3 0 0 addr 0 s)

end Sys2Proof.Machine
end

