-- ==== Sys2Proof/Machine/I2cFrames.lean ====
section
/-! DEFINITION. The four I2C frames: the phases of `I2C_WRITE_BYTE` and `I2C_READ_BYTE`. -/

namespace Sys2Proof.Machine

/-- `I2C_PRIMARY` (41_i2c_engine R123, R124): the primary write. A failure ends the operation, or under
`I2C_PRIMARY_ABORT = false` is forgotten (R215). -/
def execI2cPrimary (slave : BitVec 7) (reg data : Byte) (s : State) :
    Host.Outcome State Fault Refusal :=
  match callPhase 1 (.i2cPrimary slave reg data) s with
  | .stuck => .fault .callNeverReturns
  | .answered e t =>
    let u := latchI2c slave reg data e (nextReply s) t
    if e ≠ .ok ∧ s.params.i2cPrimaryAbort then .next (finish e 0 false 0 u)
    else .next { u with phase := 2, retry := 0 }

/-- `I2C_POLL` (41_i2c_engine R123, R125): one address-only poll of the write-verify loop. The first `OK`
ends the operation; a failure ends it only on the last poll of the budget. -/
def execI2cPoll (slave : BitVec 7) (reg : Byte) (s : State) : Host.Outcome State Fault Refusal :=
  match callPhase 2 (.i2cPoll slave reg) s with
  | .stuck => .fault .callNeverReturns
  | .answered e t =>
    let u := { t with retry := t.retry + 1 }
    if e = .ok then .next (finish .ok 0 false u.retry (confirmI2c u))
    else if u.retry.toNat = s.params.i2cRetryBudget then .next (finish e 0 false u.retry u)
    else .next u

/-- `I2C_SETUP` (41_i2c_engine R128, R129): the write phase of a read. -/
def execI2cSetup (slave : BitVec 7) (reg : Byte) (s : State) : Host.Outcome State Fault Refusal :=
  flowOutcome (phaseStep 1 (.i2cSetup slave reg) abortRead s)

/-- `I2C_READ` (41_i2c_engine R128, R130): the read phase; the byte received is the result. -/
def execI2cRead (slave : BitVec 7) (s : State) : Host.Outcome State Fault Refusal :=
  match callPhase 2 (.i2cRead slave) s with
  | .stuck => .fault .callNeverReturns
  | .answered e t =>
    if e = .ok then .next (finish .ok ((fbByte t 0).setWidth 16) false 0 t) else .next (abortRead e t)

end Sys2Proof.Machine
end

