-- ==== Sys2Proof/Machine/SpiPhases.lean ====
section
/-! DEFINITION. The SPI phases of `SPI_WRITE_WORD` and `SPI_READ_WORD`, and the three moves of
`SPI_WRITE_WORD` that have no row of their own: the strobe, the ready-line poll and the release. -/

namespace Sys2Proof.Machine

/-- Step 1 of `SPI_WRITE_WORD` with a given nine-bit frame (42_spi_engine R143). -/
def writeEnableFlow (r : Request) (s : State) : Flow :=
  phaseStep 1 r failSpiWrite s

/-- Step 2 of `SPI_WRITE_WORD` (42_spi_engine R144). -/
def writeOpcodeFlow (a : BitVec 5) (s : State) : Flow :=
  phaseStep 2 (.spiWrOp a) failSpiWrite s

/-- Step 3 of `SPI_WRITE_WORD` (42_spi_engine R145). -/
def writeLowFlow (b : BitVec 3) (s : State) : Flow :=
  phaseStep 3 (.spiWrLo b) failSpiWrite s

/-- Step 4 of `SPI_WRITE_WORD` (42_spi_engine R146). -/
def writeDataFlow (lo hi : Byte) (s : State) : Flow :=
  phaseStep 4 (.spiWrData lo hi) failSpiWrite s

/-- Step 7 of `SPI_WRITE_WORD` with a given nine-bit frame, and the normal end of the operation
(42_spi_engine R150, R151). -/
def writeDisableFlow (r : Request) (s : State) : Flow :=
  match callPhase 7 r s with
  | .stuck => .stuck
  | .answered e t => .stopped (if e = .ok then finish .ok 0 t.busyLast t.retry t else failSpiWrite e t)

/-- Phase 1 of `SPI_READ_WORD` (42_spi_engine R154). -/
def readOpcodeFlow (a : BitVec 5) (s : State) : Flow :=
  phaseStep 1 (.spiRdOp a) abortRead s

/-- Phase 2 of `SPI_READ_WORD` (42_spi_engine R155). -/
def readLowFlow (b : BitVec 3) (s : State) : Flow :=
  phaseStep 2 (.spiRdLo b) abortRead s

/-- Phase 3 of `SPI_READ_WORD` and the end of the operation (42_spi_engine R156, R157). -/
def readDataFlow (s : State) : Flow :=
  match callPhase 3 .spiRdData s with
  | .stuck => .stuck
  | .answered e t =>
    .stopped (if e = .ok then finish .ok (joinWord (fbByte t 0) (fbByte t 1)) false 0 t
      else abortRead e t)

/-- `SPI_WE` (42_spi_engine R143). -/
def execSpiWe (s : State) : Host.Outcome State Fault Refusal :=
  flowOutcome (writeEnableFlow .spiWe s)

/-- `SPI_WR_OP` (42_spi_engine R144). -/
def execSpiWrOp (a : BitVec 5) (s : State) : Host.Outcome State Fault Refusal :=
  flowOutcome (writeOpcodeFlow a s)

/-- `SPI_WR_LO` (42_spi_engine R145). -/
def execSpiWrLo (b : BitVec 3) (s : State) : Host.Outcome State Fault Refusal :=
  flowOutcome (writeLowFlow b s)

/-- `SPI_WR_DATA` (42_spi_engine R146). -/
def execSpiWrData (lo hi : Byte) (s : State) : Host.Outcome State Fault Refusal :=
  flowOutcome (writeDataFlow lo hi s)

/-- `SPI_WD` (42_spi_engine R150). -/
def execSpiWd (s : State) : Host.Outcome State Fault Refusal :=
  flowOutcome (writeDisableFlow .spiWd s)

/-- `SPI_RD_OP` (42_spi_engine R154). -/
def execSpiRdOp (a : BitVec 5) (s : State) : Host.Outcome State Fault Refusal :=
  flowOutcome (readOpcodeFlow a s)

/-- `SPI_RD_LO` (42_spi_engine R155). -/
def execSpiRdLo (b : BitVec 3) (s : State) : Host.Outcome State Fault Refusal :=
  flowOutcome (readLowFlow b s)

/-- `SPI_RD_DATA` (42_spi_engine R156). -/
def execSpiRdData (s : State) : Host.Outcome State Fault Refusal :=
  flowOutcome (readDataFlow s)

/-- `SPI_STROBE`, the first part of step 5 (42_spi_engine R147): the polls come next. -/
def spiStrobe (s : State) : Host.Outcome State Fault Refusal :=
  match callPhase 5 .spiStrobe s with
  | .stuck => .fault .callNeverReturns
  | .answered e t =>
    if e = .ok then .next { t with polling := true, retry := 0 } else .next (failSpiWrite e t)

/-- One `IsBusy()` of step 5 (42_spi_engine R142, R148): a failing call ends the operation; the loop goes
on while the device is busy and the budget lasts. -/
def spiIsBusy (s : State) : Host.Outcome State Fault Refusal :=
  let a := nextReply s
  if a.returns then
    let st := Status.ofCode a.code
    let t := afterIsBusy a s
    if st ≠ .ok then .next (failSpiWrite st t)
    else
      let u := noteReady a.busy { t with busyLast := a.busy }
      if a.busy ∧ u.retry.toNat < s.params.spiBusyBudget then .next u
      else .next { u with phase := 6, polling := false }
  else .fault .callNeverReturns

/-- `SPI_RELEASE`, step 6 (42_spi_engine R149). -/
def spiRelease (s : State) : Host.Outcome State Fault Refusal :=
  flowOutcome (phaseStep 6 .spiRelease failSpiWrite s)

end Sys2Proof.Machine
end

