-- ==== Sys2Proof/Machine/SpiFrames.lean ====
section
/-! DEFINITION. The four whole SPI wire frames: everything between one assertion of chip select and its
deassertion (30_encoding R76 to R79, 40_channel_primitives R107), as the transfers that send it
(assumption 17). -/

namespace Sys2Proof.Machine

/-- `SPI_FRAME_WRITE_ENABLE` (30_encoding R76): opcode `10011`, four bits that the device ignores, in one
call. The engine's own frame has `x = 1110` (R83). -/
def execSpiFrameWriteEnable (x : BitVec 4) (s : State) : Host.Outcome State Fault Refusal :=
  flowOutcome (writeEnableFlow (.spiNineBits (0b10011#5 ++ x)) s)

/-- `SPI_FRAME_WRITE_DISABLE` (30_encoding R77): opcode `10000`, four bits that the device ignores, in
one call. The engine's own frame has `x = 1110` (R83). -/
def execSpiFrameWriteDisable (x : BitVec 4) (s : State) : Host.Outcome State Fault Refusal :=
  flowOutcome (writeDisableFlow (.spiNineBits (0b10000#5 ++ x)) s)

/-- `SPI_FRAME_WRITE` (30_encoding R78): the opcode byte with five address bits, three address bits, two
data bytes, in three calls of which a failing one ends the operation. -/
def execSpiFrameWrite (a : BitVec 8) (lo hi : Byte) (s : State) : Host.Outcome State Fault Refusal :=
  flowOutcome (andThen (writeOpcodeFlow (hi5 a) s) fun t =>
    andThen (writeLowFlow (lo3 a) t) fun u => writeDataFlow lo hi u)

/-- `SPI_FRAME_READ` (30_encoding R79): twelve bits sent in two calls, sixteen received in a third; a
failing call ends the operation. -/
def execSpiFrameRead (a : BitVec 8) (s : State) : Host.Outcome State Fault Refusal :=
  flowOutcome (andThen (readOpcodeFlow (hi5 a) s) fun t =>
    andThen (readLowFlow (lo3 a) t) fun u => readDataFlow u)

end Sys2Proof.Machine
end

