-- ==== Sys2Proof/Machine/Dispatch.lean ====
section
/-! DEFINITION. The dispatch: one arm per instruction, each one call of its meaning. -/

namespace Sys2Proof.Machine

/-- The meaning of each instruction. -/
def exec (i : Instr) (s : State) : Host.Outcome State Fault Refusal :=
  match i with
  | .i2cWriteByte dev loc data => Sys2Proof.Machine.execI2cWriteByte dev loc data s
  | .i2cReadByte dev loc => Sys2Proof.Machine.execI2cReadByte dev loc s
  | .spiWriteWord addr data => Sys2Proof.Machine.execSpiWriteWord addr data s
  | .spiReadWord addr => Sys2Proof.Machine.execSpiReadWord addr s
  | .spiFrameWriteEnable x => Sys2Proof.Machine.execSpiFrameWriteEnable x s
  | .spiFrameWriteDisable x => Sys2Proof.Machine.execSpiFrameWriteDisable x s
  | .spiFrameWrite a lo hi => Sys2Proof.Machine.execSpiFrameWrite a lo hi s
  | .spiFrameRead a => Sys2Proof.Machine.execSpiFrameRead a s
  | .spiWe => Sys2Proof.Machine.execSpiWe s
  | .spiWrOp a => Sys2Proof.Machine.execSpiWrOp a s
  | .spiWrLo b => Sys2Proof.Machine.execSpiWrLo b s
  | .spiWrData lo hi => Sys2Proof.Machine.execSpiWrData lo hi s
  | .spiWd => Sys2Proof.Machine.execSpiWd s
  | .spiRdOp a => Sys2Proof.Machine.execSpiRdOp a s
  | .spiRdLo b => Sys2Proof.Machine.execSpiRdLo b s
  | .spiRdData => Sys2Proof.Machine.execSpiRdData s
  | .i2cPrimary slave reg data => Sys2Proof.Machine.execI2cPrimary slave reg data s
  | .i2cPoll slave reg => Sys2Proof.Machine.execI2cPoll slave reg s
  | .i2cSetup slave reg => Sys2Proof.Machine.execI2cSetup slave reg s
  | .i2cRead slave => Sys2Proof.Machine.execI2cRead slave s

end Sys2Proof.Machine
end

