-- ==== Sys2Proof/Machine/Sequencer.lean ====
section
/-! DEFINITION. What a step fetches: the environment's next move, and on the engine's turn the phase (or
the whole SPI frame) that `ARG_OP` and `PHASE` select. Also where a given word is placed so that the next
step fetches it. -/

namespace Sys2Proof.Machine

/-- What the sequencer does next: a word to decode and run, one of the three moves of step 5 and 6 that
have no row, or nothing where `PHASE` is out of the operation's table. -/
inductive Move where
  | word (e : Encoded)
  | strobe
  | isBusy
  | release
  | outOfTable
  deriving DecidableEq, Repr

/-- The phases of `I2C_WRITE_BYTE` (41_i2c_engine R123). -/
def i2cWriteMove (s : State) : Move :=
  if s.phase = 0 ∨ s.phase = 1 then
    .word (.request (.i2cPrimary s.slave s.reg (s.argData.setWidth 8)))
  else if s.phase = 2 then .word (.request (.i2cPoll s.slave s.reg))
  else .outOfTable

/-- The phases of `I2C_READ_BYTE` (41_i2c_engine R128). -/
def i2cReadMove (s : State) : Move :=
  if s.phase = 0 ∨ s.phase = 1 then .word (.request (.i2cSetup s.slave s.reg))
  else if s.phase = 2 then .word (.request (.i2cRead s.slave))
  else .outOfTable

/-- The steps of `SPI_WRITE_WORD` (42_spi_engine R142), one call each. -/
def spiWriteMove (s : State) : Move :=
  if s.phase = 0 ∨ s.phase = 1 then .word (.request .spiWe)
  else if s.phase = 2 then
    .word (.request (.spiWrOp (writeHigh s.params.addrPacking s.argAddr)))
  else if s.phase = 3 then
    .word (.request (.spiWrLo (writeLow s.params.addrPacking s.argAddr)))
  else if s.phase = 4 then .word (.request (.spiWrData (wordLow s.argData) (wordHigh s.argData)))
  else if s.phase = 5 then if s.polling then .isBusy else .strobe
  else if s.phase = 6 then .release
  else if s.phase = 7 then .word (.request .spiWd)
  else .outOfTable

/-- The phases of `SPI_READ_WORD` (42_spi_engine R153). -/
def spiReadMove (s : State) : Move :=
  if s.phase = 0 ∨ s.phase = 1 then
    .word (.request (.spiRdOp (readHigh s.params.addrPacking s.argAddr)))
  else if s.phase = 2 then
    .word (.request (.spiRdLo (readLow s.params.addrPacking s.argAddr)))
  else if s.phase = 3 then .word (.request .spiRdData)
  else .outOfTable

/-- The sequencer (10_state R25, 43_operation_classes R162). -/
def sequence (s : State) : Move :=
  if s.argOp = 0 then i2cWriteMove s
  else if s.argOp = 1 then i2cReadMove s
  else if s.argOp = 2 then spiWriteMove s
  else spiReadMove s

/-- The don't-care bits the engine sends in its nine-bit frames (30_encoding R83). -/
def engineX : BitVec 4 := 0b1110#4

/-- The physical SPI transaction that begins at the present phase, as the bits it sends (30_encoding R76
to R79; 42_spi_engine R158); where none begins, the next phase. -/
def sequenceFrame (s : State) : Move :=
  if s.argOp = 2 ∧ (s.phase = 0 ∨ s.phase = 1) then .word (encode (.spiFrameWriteEnable engineX))
  else if s.argOp = 2 ∧ s.phase = 2 then
    .word (encode (.spiFrameWrite
      (writeHigh s.params.addrPacking s.argAddr ++ writeLow s.params.addrPacking s.argAddr)
      (wordLow s.argData) (wordHigh s.argData)))
  else if s.argOp = 2 ∧ s.phase = 7 then .word (encode (.spiFrameWriteDisable engineX))
  else if s.argOp = 3 ∧ (s.phase = 0 ∨ s.phase = 1) then
    .word (encode (.spiFrameRead
      (readHigh s.params.addrPacking s.argAddr ++ readLow s.params.addrPacking s.argAddr)))
  else sequence s

/-- What a step does: run an instruction at a state, or what is already an outcome. -/
inductive Fetched where
  | instr (i : Instr) (s : State)
  | moved (o : Host.Outcome State Fault Refusal)

/-- A decoded word runs; one the decoder refuses is refused. -/
def runWord (e : Encoded) (s : State) : Fetched :=
  match decode e with
  | .ok i => .instr i s
  | .error err => .moved (.refused (.undecodable err))

/-- The engine's turn: idle, it does nothing (70_reset R201); running, it makes its next move. -/
def engineTurn (m : Move) (s : State) : Fetched :=
  match s.engine with
  | .idle => .moved (.next s)
  | .running =>
    match m with
    | .word e => runWord e s
    | .strobe => .moved (spiStrobe s)
    | .isBusy => .moved (spiIsBusy s)
    | .release => .moved (spiRelease s)
    | .outOfTable => .moved (.fault .phaseOutOfTable)

/-- The host writes `CMD` (10_state R23; assumption 14): ignored while an operation runs (70_reset
R210); else decoded first (60_exceptions R179), an illegal word reported (30_encoding R63). -/
def commandWrite (w : CommandWord) (s : State) : Fetched :=
  match s.engine with
  | .running => .moved (.next s)
  | .idle =>
    match decode (.command w) with
    | .ok i => .instr i s
    | .error _ => .moved (.next (illegalCommand s))

/-- The collaborator drives a handle input (10_state R24). -/
def driveHandle (bus : Bus) (valid : Bool) (s : State) : State :=
  match bus with
  | .i2c => { s with i2cChValid := valid }
  | .spi => { s with spiChValid := valid }

/-- A device's write cycle ends by itself (10_state R31). -/
def endCycle (bus : Bus) (s : State) : State :=
  match bus with
  | .i2c => { s with i2cLine := { s.i2cLine with cycle := false } }
  | .spi => { s with spiLine := { s.spiLine with cycle := false } }

/-- The bus an operation is for (10_state R24: `op` 0 and 1 are I2C). -/
def busOf (op : BitVec 2) : Bus :=
  if op = 0 ∨ op = 1 then .i2c else .spi

/-- An operation on this bus is running. -/
def busInUse (bus : Bus) (s : State) : Bool :=
  decide (s.engine = .running) && decide (busOf s.argOp = bus)

/-- Reset strikes (70_reset R201): the block's registers as after reset (10_state R35), no channel call;
a running operation is abandoned, its bus left in what the environment says. The channels, the devices
and the handle inputs are not the block's (assumption 21). -/
def resetBlock (i2c : I2cLine) (spi : SpiLine) (s : State) : State :=
  { s with
    argOp := 0, argDev := 0, argLoc := 0, argAddr := 0, argData := 0
    resStatus := 0, resData := 0, resBusy := false, resRetries := 0, resDone := false
    engine := .idle, phase := 0, polling := false, retry := 0, busyLast := false
    fb := List.replicate s.params.fbCap 0
    i2cLine := if busInUse .i2c s then i2c else s.i2cLine
    spiLine := if busInUse .spi s then spi else s.spiLine
    spiReadySeen := s.spiReadySeen && !busInUse .spi s }

/-- The next move of the machine: the environment's where one is waiting, else the engine's. -/
def fetch (s : State) : Fetched :=
  match s.inputs with
  | [] => engineTurn (sequence s) s
  | .engine :: rest => engineTurn (sequence s) { s with inputs := rest }
  | .engineFrame :: rest => engineTurn (sequenceFrame s) { s with inputs := rest }
  | .cmd w :: rest => commandWrite w { s with inputs := rest }
  | .handle bus valid :: rest => .moved (.next (driveHandle bus valid { s with inputs := rest }))
  | .cycleEnds bus :: rest => .moved (.next (endCycle bus { s with inputs := rest }))
  | .reset i2c spi :: rest => .moved (.next (resetBlock i2c spi { s with inputs := rest }))

/-! ## Placing a word where the next step fetches it -/

/-- The host's next move is to write this command word, and the engine is free to take it. -/
def placeCommand (w : CommandWord) (s : State) : State :=
  { s with inputs := .cmd w :: s.inputs, engine := .idle }

/-- An answer `OK` with the full size, the buses left as they are. -/
def fullReply (s : State) (size : Nat) : Reply :=
  { returns := true, code := 0, moved := size, bytes := [], busy := false,
    i2cAfter := s.i2cLine, spiAfter := s.spiLine }

/-- The engine is at phase `k` of operation `op`, has the next turn, and its calls are answered. -/
def placeTurn (turn : Input) (op : BitVec 2) (k : BitVec 4) (sizes : List Nat) (s : State) : State :=
  { s with
    params := { s.params with addrPacking := .prose53 }
    inputs := turn :: s.inputs
    replies := sizes.map (fullReply s) ++ s.replies
    engine := .running, argOp := op, phase := k, polling := false }

/-- The state in which the next step fetches a given instruction: a host command at the port; a phase or
a frame at its place in its operation, with the operand registers that make its word (assumption 6). -/
def placeInstr (i : Instr) (s : State) : State :=
  match i with
  | .i2cWriteByte dev loc data => placeCommand (commandI 0b00#2 dev loc data) s
  | .i2cReadByte dev loc => placeCommand (commandI 0b01#2 dev loc 0) s
  | .spiWriteWord addr data => placeCommand (commandS 0b10#2 addr data) s
  | .spiReadWord addr => placeCommand (commandS 0b11#2 addr 0) s
  | .spiFrameWriteEnable _ => placeTurn .engineFrame 2 1 [9] s
  | .spiFrameWriteDisable _ => placeTurn .engineFrame 2 7 [9] s
  | .spiFrameWrite a lo hi =>
    { placeTurn .engineFrame 2 2 [1, 3, 2] s with argAddr := a, argData := joinWord lo hi }
  | .spiFrameRead a => { placeTurn .engineFrame 3 1 [1, 4, 2] s with argAddr := a }
  | .spiWe => placeTurn .engine 2 1 [9] s
  | .spiWrOp a => { placeTurn .engine 2 2 [1] s with argAddr := a ++ 0#3 }
  | .spiWrLo b => { placeTurn .engine 2 3 [3] s with argAddr := 0#5 ++ b }
  | .spiWrData lo hi => { placeTurn .engine 2 4 [2] s with argData := joinWord lo hi }
  | .spiWd => placeTurn .engine 2 7 [9] s
  | .spiRdOp a => { placeTurn .engine 3 1 [1] s with argAddr := a ++ 0#3 }
  | .spiRdLo b => { placeTurn .engine 3 2 [4] s with argAddr := 0#5 ++ b }
  | .spiRdData => placeTurn .engine 3 3 [2] s
  | .i2cPrimary slave reg data =>
    { placeTurn .engine 0 1 [2] s with argDev := slave, argLoc := 0#3 ++ reg, argData := data.setWidth 16 }
  | .i2cPoll slave reg => { placeTurn .engine 0 2 [1] s with argDev := slave, argLoc := 0#3 ++ reg }
  | .i2cSetup slave reg => { placeTurn .engine 1 1 [1] s with argDev := slave, argLoc := 0#3 ++ reg }
  | .i2cRead slave => { placeTurn .engine 1 2 [1] s with argDev := slave, argLoc := 0 }

/-- A table word placed where the next step fetches it; a command word is placed as it is, legal or not.
-/
def placeWord (nbits w : Nat) (s : State) : State :=
  if nbits = 32 then placeCommand (BitVec.ofNat 32 w) s
  else
    match decodeTableWord nbits w with
    | some i => placeInstr i s
    | none => s

end Sys2Proof.Machine
end

