-- ==== Sys2Proof/Safety.lean ====
section
/-! DEFINITION. What counts as a well-formed state and as a safe run, in the terms the claims use: the
invariants of the engine, what the host may rely on, the chip-select discipline, and what of a state the
engine can see. -/

namespace Sys2Proof.Machine

/-! ## The host's view -/

/-- The host may read the result registers (70_reset R218). -/
def resultValid (s : State) : Bool :=
  s.resDone

/-- The host may use `RES_DATA` (70_reset R218). -/
def dataValid (s : State) : Bool :=
  s.resDone && decide (s.resStatus = Status.ok.code)

/-! ## Invariants -/

/-- The parameters are in range, the frame buffer has its capacity, the device arrays are in canonical
form, and a write in progress is at an address that exists. -/
def ShapeInv (s : State) : Prop :=
  s.params.wf = true ∧ s.fb.length = s.params.fbCap ∧ memWf s = true ∧
  (∀ p, s.i2cPending = some p → p.1 < i2cCells) ∧ (∀ p, s.spiPending = some p → p.1 < spiWords)

/-- The fields of a command word that an operation does not have are loaded with zero
(30_encoding R61, 10_state R21). -/
def OperandInv (s : State) : Prop :=
  (busOf s.argOp = .i2c → s.argAddr = 0 ∧ s.argData.toNat < 256) ∧
  (busOf s.argOp = .spi → s.argDev = 0 ∧ s.argLoc = 0) ∧
  (s.argOp = 1 ∨ s.argOp = 3 → s.argData = 0)

/-- While an operation runs, `RES_DONE` is 0, `PHASE` is in its table, and `RETRY` and `BUSYLAST` are
what its polls so far make them, `RETRY` below the budget while a poll is still to come
(10_state R22, R25, R26). -/
def SequencerInv (s : State) : Prop :=
  (s.polling = true → s.engine = .running ∧ s.argOp = 2 ∧ s.phase = 5) ∧
  (s.engine = .running →
    s.resDone = false ∧
    (s.argOp = 0 → s.busyLast = false ∧
      ((s.phase.toNat ≤ 1 ∧ s.retry = 0) ∨
        (s.phase = 2 ∧ s.retry.toNat < s.params.i2cRetryBudget))) ∧
    (s.argOp = 1 → s.phase.toNat ≤ 2 ∧ s.retry = 0 ∧ s.busyLast = false) ∧
    (s.argOp = 2 →
      (s.phase.toNat ≤ 5 ∧ s.polling = false ∧ s.retry = 0 ∧ s.busyLast = false) ∨
      (s.phase = 5 ∧ s.polling = true ∧ s.retry.toNat < s.params.spiBusyBudget ∧
        (s.retry = 0 → s.busyLast = false)) ∨
      ((s.phase = 6 ∨ s.phase = 7) ∧ 0 < s.retry.toNat ∧ s.retry.toNat ≤ s.params.spiBusyBudget ∧
        (s.busyLast = true → s.retry.toNat = s.params.spiBusyBudget))) ∧
    (s.argOp = 3 → s.phase.toNat ≤ 3 ∧ s.retry = 0 ∧ s.busyLast = false))

/-- What a caller reads from a result (41_i2c_engine R126, 42_spi_engine R151, R157): the retry count
tells a failure before the polls from an exhausted budget, and the busy hint under `OK` comes with an
exhausted budget only. -/
def ResultInv (s : State) : Prop :=
  s.resDone = true →
    s.engine = .idle ∧
    (s.argOp = 0 → s.resBusy = false ∧ s.resData = 0 ∧
      ((s.resStatus = Status.ok.code ∧ 0 < s.resRetries.toNat ∧
          s.resRetries.toNat ≤ s.params.i2cRetryBudget) ∨
        (s.resStatus ≠ Status.ok.code ∧
          (s.resRetries = 0 ∨ s.resRetries.toNat = s.params.i2cRetryBudget)))) ∧
    (s.argOp = 1 ∨ s.argOp = 3 → s.resBusy = false ∧ s.resRetries = 0) ∧
    (s.argOp = 2 → s.resData = 0 ∧ s.resRetries.toNat ≤ s.params.spiBusyBudget ∧
      (s.resStatus = Status.ok.code → 0 < s.resRetries.toNat ∧
        (s.resBusy = true → s.resRetries.toNat = s.params.spiBusyBudget)))

/-- The invariant of the machine. -/
def Inv (s : State) : Prop :=
  ShapeInv s ∧ OperandInv s ∧ SequencerInv s ∧ ResultInv s

/-! ## Channel answers -/

/-- The next channel call, a transfer of `r`, returns with effective status `OK`. -/
def Succeeds (s : State) (r : Request) : Prop :=
  (nextReply s).returns = true ∧ replyStatus r (nextReply s) = .ok

/-- The next channel call, a transfer of `r`, returns with an effective status `e` that is not `OK`. -/
def FailsWith (s : State) (r : Request) (e : Status) : Prop :=
  (nextReply s).returns = true ∧ replyStatus r (nextReply s) = e ∧ e ≠ .ok

/-- The answer that the channel call after `n` further ones gets, from the script or drawn past its end
(40_channel_primitives R106; assumption 2). -/
def replyAt (s : State) (n : Nat) : Reply :=
  nextReply { s with replies := s.replies.drop n, draws := s.draws + n }

/-- What a phase's call leaves beside the bus and the operation's own registers: `PHASE` at the phase,
the frame buffer zero but for the leading bytes sent or received, the call in the trace, its answer used
up (10_state R25, R27; 00_scope R15). -/
def phaseCalled (k : BitVec 4) (r : Request) (s : State) : State :=
  let a := nextReply s
  let lead := match r.dir with
    | .write => r.buf
    | .read => received r a
  { s with
    phase := k
    fb := lead ++ List.replicate (s.params.fbCap - lead.length) 0
    trace := s.trace ++ [.xfer r (Status.ofCode a.code) a.moved (received r a)]
    replies := s.replies.tail
    draws := s.draws + 1 }

/-- The most channel calls an operation makes (70_reset R217). -/
def callBound (s : State) : Nat :=
  if s.argOp = 0 then 1 + s.params.i2cRetryBudget
  else if s.argOp = 1 then 2
  else if s.argOp = 2 then 7 + s.params.spiBusyBudget
  else 3

/-! ## How a phase ends, on every state -/

/-- The I2C channel and device are as they were. -/
def SameI2c (s t : State) : Prop :=
  t.i2cLine = s.i2cLine ∧ t.i2cPending = s.i2cPending ∧ t.i2cMem = s.i2cMem

/-- The SPI channel and device are as they were. -/
def SameSpi (s t : State) : Prop :=
  t.spiLine = s.spiLine ∧ t.spiPending = s.spiPending ∧ t.spiMem = s.spiMem ∧
  t.spiReadySeen = s.spiReadySeen

/-- A state without what only the channels and the devices hold (10_state R31), and without what has been
seen of a device. -/
def engineView (s : State) : State :=
  { s with
    i2cLine := { opened := false, cycle := false }, i2cPending := none, i2cMem := []
    spiLine := { cs := false, wire := [], enabled := false, cycle := false }, spiPending := none
    spiMem := [], spiReadySeen := false }

/-- `i` makes the call `r` as phase `k`; where the call succeeds the engine is left as the call leaves it,
at the next phase, and the I2C side is untouched. -/
def SpiPhasePasses (i : Instr) (k : BitVec 4) (r : Request) : Prop :=
  ∀ s : State, s.params.wf = true → Succeeds s r →
    ∃ t, exec i s = .next t ∧ engineView t = engineView { phaseCalled k r s with phase := k + 1 } ∧
      SameI2c s t

/-- `i` makes the call `r` as phase `k`; where the call succeeds the operation ends with `OK`, the data,
the busy hint and the retry count given, and the I2C side is untouched. -/
def SpiPhaseEnds (i : Instr) (k : BitVec 4) (r : Request) (data : State → DataWord) (busy : State → Bool)
    (retries : State → BitVec 8) : Prop :=
  ∀ s : State, s.params.wf = true → Succeeds s r →
    ∃ t, exec i s = .next t ∧ SameI2c s t ∧
      engineView t = engineView { phaseCalled k r s with
        resStatus := Status.ok.code, resData := data s, resBusy := busy s, resRetries := retries s
        resDone := true, engine := .idle, polling := false }

/-- `i` makes the call `r` as phase `k`; where the call fails the operation ends with its effective
status, the data, the busy hint and the retry count given; the SPI side is left as the oracle says, the
I2C side is untouched. -/
def SpiPhaseAborts (i : Instr) (k : BitVec 4) (r : Request) (data : State → DataWord)
    (busy : State → Bool) (retries : State → BitVec 8) : Prop :=
  ∀ (s : State) (e : Status), s.params.wf = true → FailsWith s r e →
    ∃ t, exec i s = .next t ∧ SameI2c s t ∧ t.spiLine = (nextReply s).spiAfter ∧
      engineView t = engineView { phaseCalled k r s with
        resStatus := e.code, resData := data s, resBusy := busy s, resRetries := retries s
        resDone := true, engine := .idle, polling := false }

/-- Byte `n` that the next answer delivers; 0 where it delivers fewer. -/
def replyByte (s : State) (n : Nat) : Byte :=
  (nextReply s).bytes.getD n 0

/-! ## The chip-select discipline -/

/-- At this point of a running SPI operation chip select is asserted, if every call did what its flags
say and the operation began with it deasserted (42_spi_engine R158). -/
def csExpected (s : State) : Bool :=
  if s.argOp = 2 then
    decide (s.phase = 3) || decide (s.phase = 4) || (decide (s.phase = 5) && s.polling) ||
      decide (s.phase = 6)
  else if s.argOp = 3 then decide (s.phase = 2) || decide (s.phase = 3)
  else false

/-- Chip select is where a running SPI operation expects it. -/
def CsInv (s : State) : Prop :=
  s.engine = .running → busOf s.argOp = .spi → s.spiLine.cs = csExpected s

/-- The physical SPI transactions of a trace, as the bits sent in each: what lies between an assertion of
chip select and the next deassertion (40_channel_primitives R107). `sent` is what was sent before the
trace since the last assertion. -/
def physicalTransactions (sent : List Bool) : List Call → List (List Bool)
  | [] => []
  | .isBusy _ _ :: rest => physicalTransactions sent rest
  | .xfer r _ _ _ :: rest =>
    match r.target with
    | .i2c _ => physicalTransactions sent rest
    | .spi =>
      let bits := (if r.opts.chipSelectEnable then [] else sent) ++ r.bits
      if r.opts.chipSelectDisable then bits :: physicalTransactions [] rest
      else physicalTransactions bits rest

/-- No SPI call of a row asserts chip select where it is asserted or deasserts it where it is not, `cs` being
its level before the row and every call doing what its flags say (42_spi_engine R158). -/
def csDisciplined (cs : Bool) : List Call → Bool
  | [] => true
  | .isBusy _ _ :: rest => csDisciplined cs rest
  | .xfer r _ _ _ :: rest =>
    match r.target with
    | .i2c _ => csDisciplined cs rest
    | .spi => !csMisused r.opts cs && csDisciplined (csAfter r.opts cs) rest

/-- Chip select is as an instruction's first call needs it: deasserted where the call asserts it, asserted
where the call only deasserts it (42_spi_engine R158). -/
def csFits (i : Instr) (cs : Bool) : Bool :=
  match i with
  | .spiWe => !cs
  | .spiWrOp _ => !cs
  | .spiWrData _ _ => cs
  | .spiWd => !cs
  | .spiRdOp _ => !cs
  | .spiRdData => cs
  | .spiFrameWriteEnable _ => !cs
  | .spiFrameWriteDisable _ => !cs
  | .spiFrameWrite _ _ _ => !cs
  | .spiFrameRead _ => !cs
  | .spiWrLo _ => true
  | .spiRdLo _ => true
  | .i2cPrimary _ _ _ => true
  | .i2cPoll _ _ => true
  | .i2cSetup _ _ => true
  | .i2cRead _ => true
  | .i2cWriteByte _ _ _ => true
  | .i2cReadByte _ _ => true
  | .spiWriteWord _ _ => true
  | .spiReadWord _ => true

/-! ## What the engine sees -/

/-- A state without what earlier operations and phases left in the buffer and the result registers. -/
def forgetPast (s : State) : State :=
  { s with fb := [], resStatus := 0, resData := 0, resBusy := false, resRetries := 0 }

/-- A state without what the engine cannot see: the devices, and the location limit of the device
(20_memory R41: "The engine makes no range check"). -/
def limitlessView (s : State) : State :=
  engineView { s with params := { s.params with i2cLocLimit := 0 } }

/-- Two outcomes that are the same as far as a view of the state shows. -/
def sameUpTo (view : State → State) (o o' : Host.Outcome State Fault Refusal) : Prop :=
  match o, o' with
  | .next s, .next s' => view s = view s'
  | .fault r, .fault r' => r = r'
  | .refused r, .refused r' => r = r'
  | _, _ => False

/-- Two outcomes that the engine and the host cannot tell apart. -/
def sameToEngine (o o' : Host.Outcome State Fault Refusal) : Prop :=
  sameUpTo engineView o o'

/-! ## Placed words -/

/-- The instruction the engine runs for a placed one: its nine-bit frames have `x = 1110`
(30_encoding R83; assumption 6); every other is as it is. -/
def engineSends (i : Instr) : Instr :=
  match i with
  | .spiFrameWriteEnable _ => .spiFrameWriteEnable engineX
  | .spiFrameWriteDisable _ => .spiFrameWriteDisable engineX
  | .spiFrameWrite a lo hi => .spiFrameWrite a lo hi
  | .spiFrameRead a => .spiFrameRead a
  | .i2cWriteByte dev loc data => .i2cWriteByte dev loc data
  | .i2cReadByte dev loc => .i2cReadByte dev loc
  | .spiWriteWord addr data => .spiWriteWord addr data
  | .spiReadWord addr => .spiReadWord addr
  | .spiWe => .spiWe
  | .spiWrOp a => .spiWrOp a
  | .spiWrLo b => .spiWrLo b
  | .spiWrData lo hi => .spiWrData lo hi
  | .spiWd => .spiWd
  | .spiRdOp a => .spiRdOp a
  | .spiRdLo b => .spiRdLo b
  | .spiRdData => .spiRdData
  | .i2cPrimary slave reg data => .i2cPrimary slave reg data
  | .i2cPoll slave reg => .i2cPoll slave reg
  | .i2cSetup slave reg => .i2cSetup slave reg
  | .i2cRead slave => .i2cRead slave

end Sys2Proof.Machine
end

