-- ==== Sys2Proof/Certificates/Slice0/Obligations.lean ====
section
/-! DEFINITION. The statements for the provers. -/

open Sys2Proof Sys2Proof.Machine

/-! ## Encodings -/

/-- 30_encoding sections 1, 4 and 6: decoding what an instruction encodes to gives it back, at every
layer and for every operand. -/
def Obligations.DecodeInvertsEncode : Prop :=
  ∀ i : Instr, decode (encode i) = .ok i

/-- 30_encoding sections 1, 4, 6 and 7: what decodes to an instruction is that instruction's encoding, so
no two words share one and no other bits are accepted. -/
def Obligations.EncodeInvertsDecode : Prop :=
  ∀ (e : Encoded) (i : Instr), decode e = .ok i → encode i = e

/-- 95_test_vectors 2.1 and 2.5: words written out from the tables decode to their instructions. -/
def Obligations.WrittenWordsDecode : Prop :=
  decode (.command 0x280010AB) = .ok (.i2cWriteByte 0x50 0x010 0xAB) ∧
  decode (.command 0x6B810000) = .ok (.i2cReadByte 0x57 0x100) ∧
  decode (.command 0x802BBEEF) = .ok (.spiWriteWord 0x2B 0xBEEF) ∧
  decode (.command 0xC0FF0000) = .ok (.spiReadWord 0xFF) ∧
  decode (.command 0x40000001) = .error .illegalCommand ∧
  decode (.wire [true, false, false, false, false, true, true, true, false]) =
    .ok (.spiFrameWriteDisable 0b1110)

/-- 30_encoding R62: a word is a command exactly where its `op` bits and its must-be-zero fields say so,
which is exactly where `w & mask = match`; every `op` has a legal word. -/
def Obligations.CommandDecoderMatchesTheTable : Prop :=
  (∀ w : CommandWord,
    (decodeCommand w =
        .ok (.i2cWriteByte (w.extractLsb' 23 7) (w.extractLsb' 8 11) (w.extractLsb' 0 8)) ↔
      w.extractLsb' 30 2 = 0b00#2 ∧ w.extractLsb' 19 4 = 0) ∧
    (decodeCommand w = .ok (.i2cReadByte (w.extractLsb' 23 7) (w.extractLsb' 8 11)) ↔
      w.extractLsb' 30 2 = 0b01#2 ∧ w.extractLsb' 19 4 = 0 ∧ w.extractLsb' 0 8 = 0) ∧
    (decodeCommand w = .ok (.spiWriteWord (w.extractLsb' 16 8) (w.extractLsb' 0 16)) ↔
      w.extractLsb' 30 2 = 0b10#2 ∧ w.extractLsb' 24 6 = 0) ∧
    (decodeCommand w = .ok (.spiReadWord (w.extractLsb' 16 8)) ↔
      w.extractLsb' 30 2 = 0b11#2 ∧ w.extractLsb' 24 6 = 0 ∧ w.extractLsb' 0 16 = 0) ∧
    (w &&& 0xC0780000#32 = 0x00000000#32 ↔ w.extractLsb' 30 2 = 0b00#2 ∧ w.extractLsb' 19 4 = 0) ∧
    (w &&& 0xC07800FF#32 = 0x40000000#32 ↔
      w.extractLsb' 30 2 = 0b01#2 ∧ w.extractLsb' 19 4 = 0 ∧ w.extractLsb' 0 8 = 0) ∧
    (w &&& 0xFF000000#32 = 0x80000000#32 ↔ w.extractLsb' 30 2 = 0b10#2 ∧ w.extractLsb' 24 6 = 0) ∧
    (w &&& 0xFF00FFFF#32 = 0xC0000000#32 ↔
      w.extractLsb' 30 2 = 0b11#2 ∧ w.extractLsb' 24 6 = 0 ∧ w.extractLsb' 0 16 = 0)) ∧
  (∀ op : BitVec 2, ∃ (w : CommandWord) (i : Instr), w.extractLsb' 30 2 = op ∧ decodeCommand w = .ok i)

/-- 30_encoding R70: `SLAVE` is the base address with location bits 10:8 OR-ed into bits 3:1, `REG` is
location bits 7:0, as numbers and bit by bit; both are the same in every phase of an operation. -/
def Obligations.SlaveFoldBitByBit : Prop :=
  (∀ (dev : BitVec 7) (loc : BitVec 11),
    (slaveOf dev loc).toNat = dev.toNat ||| ((loc.toNat >>> 7) &&& 0x0E) ∧
    (regOf loc).toNat = loc.toNat &&& 0xFF ∧
    slaveOf dev loc = dev ||| (0#3 ++ loc.extractLsb' 8 3 ++ 0#1) ∧
    regOf loc = loc.extractLsb' 0 8 ∧
    (slaveOf dev loc).getLsbD 0 = dev.getLsbD 0 ∧
    (slaveOf dev loc).getLsbD 1 = (dev.getLsbD 1 || loc.getLsbD 8) ∧
    (slaveOf dev loc).getLsbD 2 = (dev.getLsbD 2 || loc.getLsbD 9) ∧
    (slaveOf dev loc).getLsbD 3 = (dev.getLsbD 3 || loc.getLsbD 10) ∧
    (slaveOf dev loc).extractLsb' 4 3 = dev.extractLsb' 4 3) ∧
  (∀ s : State, s.slave = slaveOf s.argDev s.argLoc ∧ s.reg = regOf s.argLoc) ∧
  (∀ (i : Instr) (s t : State), (∀ w, encode i ≠ .command w) → exec i s = .next t →
    t.slave = s.slave ∧ t.reg = s.reg)

/-- 30_encoding R81: no shift of the address formulas loses a set bit, and every byte the engine puts in
the frame buffer is the exact value of its formula. -/
def Obligations.AddressShiftsLoseNoBit : Prop :=
  (∀ A : BitVec 8,
    ((A &&& 0x07#8) <<< 5).toNat = (A.toNat % 8) * 32 ∧ ((A &&& 0x07#8) <<< 5).toNat ≤ 0xE0 ∧
    ((A >>> 3) &&& 0x1F#8).toNat = A.toNat / 8 ∧ ((A >>> 3) &&& 0x1F#8).toNat ≤ 0x1F ∧
    0xA0#8 &&& ((A >>> 3) &&& 0x1F#8) = 0 ∧ 0xC0#8 &&& ((A >>> 3) &&& 0x1F#8) = 0 ∧
    (Request.spiWrOp (hi5 A)).buf.map BitVec.toNat = [0xA0 + A.toNat / 8] ∧
    (Request.spiRdOp (hi5 A)).buf.map BitVec.toNat = [0xC0 + A.toNat / 8] ∧
    (Request.spiWrLo (lo3 A)).buf.map BitVec.toNat = [(A.toNat % 8) * 32] ∧
    (Request.spiRdLo (lo3 A)).buf.map BitVec.toNat = [(A.toNat % 8) * 32]) ∧
  (∀ loc : BitVec 11,
    ((loc >>> 7) &&& 0x0E#11).toNat ≤ 0x0E ∧ (regOf loc).toNat = loc.toNat % 256) ∧
  (∀ D : DataWord, (wordLow D).toNat = D.toNat % 256 ∧ (wordHigh D).toNat = D.toNat / 256)

/-- 30_encoding R76 and R77: the nine bits, the two bytes, and chip select asserted and deasserted by
the one call. -/
def Obligations.NineBitFramesOnTheWire : Prop :=
  Request.spiWe.buf = [0x9F, 0x00] ∧ Request.spiWe.size = 9 ∧ Request.spiWe.opts.sizeInBits = true ∧
  Request.spiWe.bits = [true, false, false, true, true, true, true, true, false] ∧
  Request.spiWe.opts.chipSelectEnable = true ∧ Request.spiWe.opts.chipSelectDisable = true ∧
  Request.spiWd.buf = [0x87, 0x00] ∧ Request.spiWd.size = 9 ∧ Request.spiWd.opts.sizeInBits = true ∧
  Request.spiWd.bits = [true, false, false, false, false, true, true, true, false] ∧
  Request.spiWd.opts.chipSelectEnable = true ∧ Request.spiWd.opts.chipSelectDisable = true ∧
  (∀ x : BitVec 4, decodeWire (bitsOf (0b10011#5 ++ x)) = .ok (.spiFrameWriteEnable x) ∧
    decodeWire (bitsOf (0b10000#5 ++ x)) = .ok (.spiFrameWriteDisable x))

/-- 30_encoding R78: the three transfers of the write frame put the opcode `101`, the eight address bits
and the sixteen data bits, low byte first, on the wire, with chip select asserted by the first call and
deasserted by the third. -/
def Obligations.WriteFrameOnTheWire : Prop :=
  ∀ (A : BitVec 8) (D : DataWord),
    (Request.spiWrOp (writeHigh .prose53 A)).bits ++ (Request.spiWrLo (writeLow .prose53 A)).bits ++
        (Request.spiWrData (wordLow D) (wordHigh D)).bits =
      [true, false, true] ++ bitsOf A ++ bitsOf (D.extractLsb' 0 8) ++ bitsOf (D.extractLsb' 8 8) ∧
    (Request.spiWrOp (writeHigh .prose53 A)).bits.length +
      (Request.spiWrLo (writeLow .prose53 A)).bits.length +
      (Request.spiWrData (wordLow D) (wordHigh D)).bits.length = 27 ∧
    (∀ cs, csAfter (Request.spiWrOp (writeHigh .prose53 A)).opts cs = true) ∧
    (∀ cs, csAfter (Request.spiWrLo (writeLow .prose53 A)).opts cs = cs) ∧
    (∀ cs, csAfter (Request.spiWrData (wordLow D) (wordHigh D)).opts cs = false)

/-- 30_encoding R79: the read frame sends the opcode `110`, the eight address bits and a dummy 0, twelve
bits in all; the two bytes then received lie in `FB[0]` and `FB[1]`; chip select is held from the first
call to the third. -/
def Obligations.ReadFrameOnTheWire : Prop :=
  (∀ A : BitVec 8,
    (Request.spiRdOp (readHigh .prose53 A)).bits ++ (Request.spiRdLo (readLow .prose53 A)).bits =
      [true, true, false] ++ bitsOf A ++ [false] ∧
    (Request.spiRdOp (readHigh .prose53 A)).bits.length +
      (Request.spiRdLo (readLow .prose53 A)).bits.length = 12 ∧
    (∀ cs, csAfter (Request.spiRdOp (readHigh .prose53 A)).opts cs = true) ∧
    (∀ cs, csAfter (Request.spiRdLo (readLow .prose53 A)).opts cs = cs) ∧
    (∀ cs, csAfter Request.spiRdData.opts cs = false)) ∧
  (∀ (s : State) (x y : Byte), s.params.wf = true → Succeeds s .spiRdData →
    (nextReply s).bytes = [x, y] → ∃ t, exec .spiRdData s = .next t ∧ fbByte t 0 = x ∧ fbByte t 1 = y)

/-- 30_encoding R82: what the data phase sends of a word, what the read phase makes of two bytes, and that
the two are inverses. -/
def Obligations.DataPackingRoundTrips : Prop :=
  (∀ (s : State) (D : DataWord), s.params.wf = true → Succeeds s (.spiWrData (wordLow D) (wordHigh D)) →
    ∃ t, exec (.spiWrData (wordLow D) (wordHigh D)) s = .next t ∧
      fbByte t 0 = D.extractLsb' 0 8 ∧ fbByte t 1 = D.extractLsb' 8 8) ∧
  (∀ (s : State) (x y : Byte), s.params.wf = true → Succeeds s .spiRdData →
    (nextReply s).bytes = [x, y] →
    ∃ t, exec .spiRdData s = .next t ∧ t.resData = y ++ x ∧
      t.resData = (y.setWidth 16 <<< 8) ||| x.setWidth 16) ∧
  (∀ D : DataWord, joinWord (wordLow D) (wordHigh D) = D) ∧
  (∀ x y : Byte, wordLow (joinWord x y) = x ∧ wordHigh (joinWord x y) = y)

/-- 40_channel_primitives R104: the effective status, that it is what every transfer gives the engine, and
that an `IsBusy()` is tested for its status alone. -/
def Obligations.EffectiveStatusOfATransfer : Prop :=
  (∀ (st : Status) (n size : Nat),
    (st ≠ .ok → eff st n size = st) ∧ (n = size → eff .ok n size = .ok) ∧
    (n ≠ size → eff .ok n size = .other)) ∧
  (∀ (r : Request) (s : State), (nextReply s).returns = true →
    ∃ t, xfer r s = .answered (eff (Status.ofCode (nextReply s).code) (nextReply s).moved r.size) t) ∧
  (∀ s : State, (nextReply s).returns = true →
    ∃ t, spiIsBusy s = .next t ∧
      (Status.ofCode (nextReply s).code ≠ .ok →
        t.engine = .idle ∧ t.resStatus = (Status.ofCode (nextReply s).code).code) ∧
      (Status.ofCode (nextReply s).code = .ok → t.engine = s.engine ∧ t.busyLast = (nextReply s).busy))

/-- 30_encoding sections 2 to 4 (the numbers and the address byte are general knowledge, assumption 15):
the status codes tell the seven statuses apart and any other code is `Other`; the option words of the
phases; the address byte of a write and of a read. -/
def Obligations.CodesAndOptionWords : Prop :=
  (∀ st : Status, Status.ofCode st.code.toNat = st) ∧
  (∀ n, (∀ st : Status, n ≠ st.code.toNat) → Status.ofCode n = .other) ∧
  (∀ (slave : BitVec 7) (reg data : Byte) (a : BitVec 5) (b : BitVec 3),
    [Request.i2cPrimary slave reg data, .i2cPoll slave reg, .i2cSetup slave reg, .i2cRead slave, .spiWe,
        .spiWd, .spiWrOp a, .spiWrLo b, .spiWrData reg data, .spiStrobe, .spiRelease, .spiRdOp a,
        .spiRdLo b, .spiRdData].map (fun r => r.opts.word r.target) =
      [0x03, 0x05, 0x01, 0x09, 0x07, 0x07, 0x02, 0x01, 0x04, 0x02, 0x04, 0x02, 0x01, 0x04]) ∧
  (∀ slave : BitVec 7, (i2cAddressByte slave .write).toNat = 2 * slave.toNat ∧
    (i2cAddressByte slave .read).toNat = 2 * slave.toNat + 1)

/-- 30_encoding section 4: the four I2C requests the sequencer makes, phase by phase (the request at
`PHASE` 0 is assumption 13), and their symbols on the wire where the call goes through (the symbols are
general knowledge, assumption 15). -/
def Obligations.I2cPhasesMakeTheTabledRequests : Prop :=
  (∀ s : State, s.argOp = 0 →
    (s.phase = 0 ∨ s.phase = 1 → sequence s = .word (.request {
      target := .i2c s.slave, dir := .write, buf := [s.reg, s.argData.extractLsb' 0 8], size := 2
      opts := { startBit := true, stopBit := true } })) ∧
    (s.phase = 2 → sequence s = .word (.request {
      target := .i2c s.slave, dir := .write, buf := [s.reg], size := 1
      opts := { startBit := true, breakOnNack := true } }))) ∧
  (∀ s : State, s.argOp = 1 →
    (s.phase = 0 ∨ s.phase = 1 → sequence s = .word (.request {
      target := .i2c s.slave, dir := .write, buf := [s.reg], size := 1
      opts := { startBit := true } })) ∧
    (s.phase = 2 → sequence s = .word (.request {
      target := .i2c s.slave, dir := .read, buf := [], size := 1
      opts := { startBit := true, nackLastByte := true } }))) ∧
  (∀ (slave : BitVec 7) (reg data x : Byte),
    i2cSymbols false slave (.i2cPrimary slave reg data) [] =
      [.start, .byte (slave ++ 0#1), .deviceAck, .byte reg, .deviceAck, .byte data, .deviceAck, .stop] ∧
    i2cSymbols false slave (.i2cPoll slave reg) [] =
      [.start, .byte (slave ++ 0#1), .deviceAck, .byte reg, .deviceAck] ∧
    i2cSymbols false slave (.i2cSetup slave reg) [] =
      [.start, .byte (slave ++ 0#1), .deviceAck, .byte reg, .deviceAck] ∧
    i2cSymbols true slave (.i2cRead slave) [x] =
      [.repeatedStart, .byte (slave ++ 1#1), .deviceAck, .byte x, .controllerNack])

/-- 30_encoding section 6, 42_spi_engine section 4: the request of every transfer of the two SPI
operations, phase by phase, under `PROSE_5_3`; the strobe, the polls and the release are moves of their own
(`PHASE` 0 and the sub-step of step 5 are assumption 13). On a frame turn (assumptions 14 and 17) it is the
whole physical transaction that begins at the phase, as the bits it sends, under either packing; at any
other phase it is the phase. -/
def Obligations.SpiPhasesMakeTheTabledRequests : Prop :=
  (∀ s : State, s.argOp = 2 → s.params.addrPacking = .prose53 →
    (s.phase = 0 ∨ s.phase = 1 → sequence s = .word (.request {
      target := .spi, dir := .write, buf := [0x9F, 0x00], size := 9
      opts := { sizeInBits := true, chipSelectEnable := true, chipSelectDisable := true } })) ∧
    (s.phase = 2 → sequence s = .word (.request {
      target := .spi, dir := .write, buf := [0xA0#8 ||| ((s.argAddr >>> 3) &&& 0x1F#8)], size := 1
      opts := { chipSelectEnable := true } })) ∧
    (s.phase = 3 → sequence s = .word (.request {
      target := .spi, dir := .write, buf := [(s.argAddr &&& 0x07#8) <<< 5], size := 3
      opts := { sizeInBits := true } })) ∧
    (s.phase = 4 → sequence s = .word (.request {
      target := .spi, dir := .write, buf := [s.argData.extractLsb' 0 8, s.argData.extractLsb' 8 8]
      size := 2, opts := { chipSelectDisable := true } })) ∧
    (s.phase = 5 → s.polling = false → sequence s = .strobe) ∧
    (s.phase = 5 → s.polling = true → sequence s = .isBusy) ∧
    (s.phase = 6 → sequence s = .release) ∧
    (s.phase = 7 → sequence s = .word (.request {
      target := .spi, dir := .write, buf := [0x87, 0x00], size := 9
      opts := { sizeInBits := true, chipSelectEnable := true, chipSelectDisable := true } }))) ∧
  (∀ s : State, s.argOp = 3 → s.params.addrPacking = .prose53 →
    (s.phase = 0 ∨ s.phase = 1 → sequence s = .word (.request {
      target := .spi, dir := .write, buf := [0xC0#8 ||| ((s.argAddr >>> 3) &&& 0x1F#8)], size := 1
      opts := { chipSelectEnable := true } })) ∧
    (s.phase = 2 → sequence s = .word (.request {
      target := .spi, dir := .write, buf := [(s.argAddr &&& 0x07#8) <<< 5], size := 4
      opts := { sizeInBits := true } })) ∧
    (s.phase = 3 → sequence s = .word (.request {
      target := .spi, dir := .read, buf := [], size := 2, opts := { chipSelectDisable := true } }))) ∧
  (∀ s t : State, spiStrobe s = .next t → ∃ st n, t.trace = s.trace ++ [.xfer {
      target := .spi, dir := .write, buf := [], size := 0, opts := { chipSelectEnable := true } } st n []]) ∧
  (∀ s t : State, spiRelease s = .next t → ∃ st n, t.trace = s.trace ++ [.xfer {
      target := .spi, dir := .write, buf := [], size := 0, opts := { chipSelectDisable := true } } st n []]) ∧
  (∀ s : State, s.argOp = 2 →
    (s.phase = 0 ∨ s.phase = 1 → sequenceFrame s = .word (.wire (bitsOf 0b100111110#9))) ∧
    (s.phase = 2 →
      sequenceFrame s = .word (.wire (bitsOf (0b101#3 ++
        (writeHigh s.params.addrPacking s.argAddr ++ writeLow s.params.addrPacking s.argAddr) ++
        s.argData.extractLsb' 0 8 ++ s.argData.extractLsb' 8 8))) ∧
      (s.params.addrPacking = .prose53 → sequenceFrame s = .word (.wire (bitsOf
        (0b101#3 ++ s.argAddr ++ s.argData.extractLsb' 0 8 ++ s.argData.extractLsb' 8 8))))) ∧
    (s.phase = 7 → sequenceFrame s = .word (.wire (bitsOf 0b100001110#9))) ∧
    (s.phase ≠ 0 → s.phase ≠ 1 → s.phase ≠ 2 → s.phase ≠ 7 → sequenceFrame s = sequence s)) ∧
  (∀ s : State, s.argOp = 3 →
    (s.phase = 0 ∨ s.phase = 1 →
      sequenceFrame s = .word (.wire (bitsOf (0b110#3 ++
        (readHigh s.params.addrPacking s.argAddr ++ readLow s.params.addrPacking s.argAddr) ++ 0#1))) ∧
      (s.params.addrPacking = .prose53 →
        sequenceFrame s = .word (.wire (bitsOf (0b110#3 ++ s.argAddr ++ 0#1))))) ∧
    (s.phase ≠ 0 → s.phase ≠ 1 → sequenceFrame s = sequence s)) ∧
  (∀ s : State, s.argOp = 0 ∨ s.argOp = 1 → sequenceFrame s = sequence s)

/-- 40_channel_primitives section 3: what the chip-select flags of a call that succeeds do to chip select
and to the physical transaction, for every size; after a call that fails the whole line is what the answer
says (assumption 11). -/
def Obligations.ChipSelectFollowsTheFlags : Prop :=
  ∀ (r : Request) (s : State), r.target = .spi → (nextReply s).returns = true →
    ∃ e t, xfer r s = .answered e t ∧
      (e = .ok →
        (r.opts.chipSelectDisable = true → t.spiLine.cs = false ∧ t.spiLine.wire = []) ∧
        (r.opts.chipSelectEnable = true → r.opts.chipSelectDisable = false →
          t.spiLine.cs = true ∧ t.spiLine.wire = r.bits) ∧
        (r.opts.chipSelectEnable = false → r.opts.chipSelectDisable = false →
          t.spiLine.cs = s.spiLine.cs ∧ t.spiLine.wire = s.spiLine.wire ++ r.bits)) ∧
      (e ≠ .ok → t.spiLine = (nextReply s).spiAfter)

/-! ## Steps, commands, the handle -/

/-- 10_state sections 3 and 4: where the host's next move writes a word that decodes to `i` while the
engine is idle, the step is `exec i` at the state without that move. -/
def Obligations.StepRunsTheDecodedCommand : Prop :=
  ∀ (s : State) (w : CommandWord) (rest : List Input) (i : Instr),
    s.inputs = .cmd w :: rest → s.engine = .idle → decode (.command w) = .ok i →
    step s = exec i { s with inputs := rest }

/-- 10_state section 4: on the engine's turn while an operation runs, the step is `exec i` for the
instruction `i` that the sequencer's word decodes to: the phase at `PHASE`, or on a frame turn (the model's
own, assumptions 14 and 17) the whole SPI frame that begins there. -/
def Obligations.StepRunsTheDecodedPhase : Prop :=
  ∀ (s : State) (e : Encoded) (i : Instr), s.engine = .running → decode e = .ok i →
    (s.inputs = [] → sequence s = .word e → step s = exec i s) ∧
    (∀ rest, s.inputs = .engine :: rest → sequence s = .word e →
      step s = exec i { s with inputs := rest }) ∧
    (∀ rest, s.inputs = .engineFrame :: rest → sequenceFrame s = .word e →
      step s = exec i { s with inputs := rest })

/-- The model's own placing of a table word (assumption 6): the next step runs exactly the instruction the
word decodes to; for a nine-bit frame that is the frame as the engine sends it, with `x = 1110`. -/
def Obligations.PlacedWordRunsNext : Prop :=
  ∀ (s : State) (nbits w : Nat) (i : Instr), decodeTableWord nbits w = some i →
    step (s.withFetchWord nbits w) =
      exec (engineSends i) { s.withFetchWord nbits w with inputs := s.inputs }

/-- 10_state sections 3 and 10, 70_reset section 1: what the machine does when it is not the engine's turn
to make a call: an idle engine waits, a handle input is driven, a device's cycle ends by itself, reset
puts the block's registers back without a channel call and leaves an idle bus alone (assumption 21). -/
def Obligations.EnvironmentMoves : Prop :=
  (∀ s : State, s.engine = .idle → s.inputs = [] → step s = .next s) ∧
  (∀ (s : State) (v : Bool) (rest : List Input),
    (s.inputs = .handle .i2c v :: rest → step s = .next { s with inputs := rest, i2cChValid := v }) ∧
    (s.inputs = .handle .spi v :: rest → step s = .next { s with inputs := rest, spiChValid := v }) ∧
    (s.inputs = .cycleEnds .i2c :: rest →
      step s = .next { s with inputs := rest, i2cLine := { s.i2cLine with cycle := false } }) ∧
    (s.inputs = .cycleEnds .spi :: rest →
      step s = .next { s with inputs := rest, spiLine := { s.spiLine with cycle := false } })) ∧
  (∀ (s : State) (l : I2cLine) (p : SpiLine) (rest : List Input), s.inputs = .reset l p :: rest →
    ∃ t, step s = .next t ∧ t.engine = .idle ∧ t.phase = 0 ∧ t.retry = 0 ∧ t.busyLast = false ∧
      t.resDone = false ∧ t.trace = s.trace ∧ t.draws = s.draws ∧ t.i2cMem = s.i2cMem ∧
      t.spiMem = s.spiMem ∧ t.i2cChValid = s.i2cChValid ∧ t.spiChValid = s.spiChValid ∧
      (s.engine = .idle → t.i2cLine = s.i2cLine ∧ t.spiLine = s.spiLine))

/-- 30_encoding R63: an illegal word written while the engine is idle. -/
def Obligations.IllegalCommandReportsInvalidParameter : Prop :=
  ∀ (s : State) (w : CommandWord) (rest : List Input),
    s.inputs = .cmd w :: rest → s.engine = .idle →
    w &&& 0xC0780000#32 ≠ 0x00000000#32 → w &&& 0xC07800FF#32 ≠ 0x40000000#32 →
    w &&& 0xFF000000#32 ≠ 0x80000000#32 → w &&& 0xFF00FFFF#32 ≠ 0xC0000000#32 →
    step s = .next { s with
      inputs := rest, resStatus := Status.invalidParameter.code, resData := 0, resBusy := false
      resRetries := 0, resDone := true }

/-- 70_reset R210: a command written while an operation runs is ignored. -/
def Obligations.CommandWhileRunningIsIgnored : Prop :=
  ∀ (s : State) (w : CommandWord) (rest : List Input),
    s.inputs = .cmd w :: rest → s.engine = .running → step s = .next { s with inputs := rest }

/-- 30_encoding R61: every field of a legal word goes to its operand register unchanged, and the registers
the format has no field for are loaded with zero. -/
def Obligations.AcceptedCommandLoadsOperands : Prop :=
  ∀ (s : State) (w : CommandWord) (rest : List Input) (i : Instr),
    s.inputs = .cmd w :: rest → s.engine = .idle → decode (.command w) = .ok i →
    ∃ t, step s = .next t ∧ t.argOp = w.extractLsb' 30 2 ∧
      (w.getLsbD 31 = false → t.argDev = w.extractLsb' 23 7 ∧ t.argLoc = w.extractLsb' 8 11 ∧
        t.argData = 0#8 ++ w.extractLsb' 0 8 ∧ t.argAddr = 0) ∧
      (w.getLsbD 31 = true → t.argAddr = w.extractLsb' 16 8 ∧ t.argData = w.extractLsb' 0 16 ∧
        t.argDev = 0 ∧ t.argLoc = 0)

/-- 10_state section 3, 30_encoding section 1: with the handle of its bus valid, each host command is
accepted: operands loaded, sequencing state initialised, the engine running, and nothing else changed (the
I2C commands with a location in range, 20_memory section 1). -/
def Obligations.HostCommandsAreAccepted : Prop :=
  ∀ (s : State) (dev : BitVec 7) (loc : BitVec 11) (data : Byte) (addr : BitVec 8) (word : DataWord),
    (s.i2cChValid = true → Instr.wf s.params (.i2cWriteByte dev loc data) = true →
      exec (.i2cWriteByte dev loc data) s = .next { s with
        argOp := 0, argDev := dev, argLoc := loc, argAddr := 0, argData := 0#8 ++ data
        resDone := false, engine := .running, phase := 0, polling := false, retry := 0
        busyLast := false }) ∧
    (s.i2cChValid = true → Instr.wf s.params (.i2cReadByte dev loc) = true →
      exec (.i2cReadByte dev loc) s = .next { s with
        argOp := 1, argDev := dev, argLoc := loc, argAddr := 0, argData := 0
        resDone := false, engine := .running, phase := 0, polling := false, retry := 0
        busyLast := false }) ∧
    (s.spiChValid = true →
      exec (.spiWriteWord addr word) s = .next { s with
        argOp := 2, argDev := 0, argLoc := 0, argAddr := addr, argData := word
        resDone := false, engine := .running, phase := 0, polling := false, retry := 0
        busyLast := false } ∧
      exec (.spiReadWord addr) s = .next { s with
        argOp := 3, argDev := 0, argLoc := 0, argAddr := addr, argData := 0
        resDone := false, engine := .running, phase := 0, polling := false, retry := 0
        busyLast := false })

/-- 60_exceptions R172: without the handle of its bus an operation ends at once with `NotOpened`, no
channel call made. -/
def Obligations.NoHandleEndsWithNotOpened : Prop :=
  ∀ (s : State) (dev : BitVec 7) (loc : BitVec 11) (data : Byte) (addr : BitVec 8) (word : DataWord)
    (i : Instr),
    (s.i2cChValid = false ∧ (i = .i2cWriteByte dev loc data ∨ i = .i2cReadByte dev loc)) ∨
      (s.spiChValid = false ∧ (i = .spiWriteWord addr word ∨ i = .spiReadWord addr)) →
    ∃ t, exec i s = .next t ∧ t.resStatus = Status.notOpened.code ∧ t.resData = 0 ∧ t.resBusy = false ∧
      t.resRetries = 0 ∧ t.resDone = true ∧ t.engine = .idle ∧ t.trace = s.trace ∧
      t.draws = s.draws ∧ t.replies = s.replies ∧ SameI2c s t ∧ SameSpi s t

/-! ## The I2C frames -/

/-- 41_i2c_engine section 2, phase 1 (the cell's content until it is confirmed is assumption 4): a
successful primary write goes on to the polls; everything else is as it was. -/
def Obligations.PrimaryWriteGoesOnToThePolls : Prop :=
  ∀ (s : State) (slave : BitVec 7) (reg data : Byte), s.params.wf = true →
    locationInRange s = true → Succeeds s (.i2cPrimary slave reg data) →
    exec (.i2cPrimary slave reg data) s = .next { phaseCalled 1 (.i2cPrimary slave reg data) s with
      phase := 2, retry := 0, i2cLine := { opened := false, cycle := true }
      i2cPending := some (i2cCell slave reg, data)
      i2cMem := writeCell s.i2cMem (i2cCell slave reg) (Config.freeCell (s.draws + 1)) }

/-- 41_i2c_engine section 2, phase 1 (assumption 4 for the cell, 11 for the line): a failed primary
write ends the operation with its status, or under `I2C_PRIMARY_ABORT = false` is forgotten. -/
def Obligations.FailedPrimaryWrite : Prop :=
  ∀ (s : State) (slave : BitVec 7) (reg data : Byte) (e : Status), s.params.wf = true →
    locationInRange s = true → FailsWith s (.i2cPrimary slave reg data) e →
    (s.params.i2cPrimaryAbort = true →
      exec (.i2cPrimary slave reg data) s = .next { phaseCalled 1 (.i2cPrimary slave reg data) s with
        i2cLine := (nextReply s).i2cAfter, i2cPending := none
        i2cMem := writeCell s.i2cMem (i2cCell slave reg) (Config.freeCell (s.draws + 1))
        resStatus := e.code, resData := 0, resBusy := false, resRetries := 0, resDone := true
        engine := .idle, polling := false }) ∧
    (s.params.i2cPrimaryAbort = false →
      exec (.i2cPrimary slave reg data) s = .next { phaseCalled 1 (.i2cPrimary slave reg data) s with
        i2cLine := (nextReply s).i2cAfter, i2cPending := none
        i2cMem := writeCell s.i2cMem (i2cCell slave reg) (Config.freeCell (s.draws + 1))
        phase := 2, retry := 0 })

/-- 41_i2c_engine section 2, phase 2: an acknowledged poll ends the operation with `OK`, and the write in
progress has committed (the model's device, assumption 4; whichever slave address was polled, assumption
23). -/
def Obligations.AcknowledgedPollCommits : Prop :=
  ∀ (s : State) (slave : BitVec 7) (reg : Byte), s.params.wf = true →
    locationInRange s = true → Succeeds s (.i2cPoll slave reg) →
    ∃ t, exec (.i2cPoll slave reg) s = .next t ∧ SameSpi s t ∧
      engineView t = engineView { phaseCalled 2 (.i2cPoll slave reg) s with
        retry := s.retry + 1
        resStatus := 0, resData := 0, resBusy := false, resRetries := s.retry + 1, resDone := true
        engine := .idle, polling := false } ∧
      t.i2cLine = { opened := true, cycle := false } ∧ t.i2cPending = none ∧
      (s.i2cPending = none → t.i2cMem = s.i2cMem) ∧
      (∀ addr v, s.i2cPending = some (addr, v) → readCell t.i2cMem addr = some v ∧
        ∀ other, other ≠ addr → readCell t.i2cMem other = readCell s.i2cMem other)

/-- 41_i2c_engine section 2, phase 2 (assumption 11 for the line): a failed poll only continues the loop,
but for poll number `I2C_RETRY_BUDGET`, which ends the operation with its own status. -/
def Obligations.FailedPollContinuesOrExhausts : Prop :=
  ∀ (s : State) (slave : BitVec 7) (reg : Byte) (e : Status), s.params.wf = true →
    locationInRange s = true → FailsWith s (.i2cPoll slave reg) e →
    ((s.retry + 1).toNat ≠ s.params.i2cRetryBudget →
      exec (.i2cPoll slave reg) s = .next { phaseCalled 2 (.i2cPoll slave reg) s with
        retry := s.retry + 1, i2cLine := (nextReply s).i2cAfter }) ∧
    ((s.retry + 1).toNat = s.params.i2cRetryBudget →
      exec (.i2cPoll slave reg) s = .next { phaseCalled 2 (.i2cPoll slave reg) s with
        retry := s.retry + 1, i2cLine := (nextReply s).i2cAfter
        resStatus := e.code, resData := 0, resBusy := false, resRetries := s.retry + 1, resDone := true
        engine := .idle, polling := false })

/-- 41_i2c_engine section 3: a successful write phase of a read goes on to the read phase with the bus
left open; a successful read phase ends the operation with the byte received, zero-extended. -/
def Obligations.I2cReadPhasesComplete : Prop :=
  ∀ (s : State) (slave : BitVec 7) (reg : Byte), s.params.wf = true → locationInRange s = true →
    (Succeeds s (.i2cSetup slave reg) →
      exec (.i2cSetup slave reg) s = .next { phaseCalled 1 (.i2cSetup slave reg) s with
        phase := 2, i2cLine := { s.i2cLine with opened := true } }) ∧
    (Succeeds s (.i2cRead slave) →
      exec (.i2cRead slave) s = .next { phaseCalled 2 (.i2cRead slave) s with
        i2cLine := { s.i2cLine with opened := true }
        resStatus := 0, resData := 0#8 ++ replyByte s 0, resBusy := false, resRetries := 0
        resDone := true, engine := .idle, polling := false })

/-- 41_i2c_engine section 3: a failed phase of a read ends the operation with its status, and `RES_DATA`
is a free draw (assumption 3; 11 for the line). -/
def Obligations.FailedI2cReadPhaseAborts : Prop :=
  ∀ (s : State) (slave : BitVec 7) (reg : Byte) (e : Status), s.params.wf = true →
    locationInRange s = true →
    (FailsWith s (.i2cSetup slave reg) e →
      exec (.i2cSetup slave reg) s = .next { phaseCalled 1 (.i2cSetup slave reg) s with
        i2cLine := (nextReply s).i2cAfter
        resStatus := e.code, resData := Config.freeData (s.draws + 1), resBusy := false
        resRetries := 0, resDone := true, engine := .idle, polling := false }) ∧
    (FailsWith s (.i2cRead slave) e →
      exec (.i2cRead slave) s = .next { phaseCalled 2 (.i2cRead slave) s with
        i2cLine := (nextReply s).i2cAfter
        resStatus := e.code, resData := Config.freeData (s.draws + 1), resBusy := false
        resRetries := 0, resDone := true, engine := .idle, polling := false })

/-! ## The SPI phases -/

/-- 42_spi_engine sections 2 and 3: each phase whose call succeeds goes on to the next one, or ends the
operation; whatever the SPI line is in. -/
def Obligations.SpiPhasesComplete : Prop :=
  SpiPhasePasses .spiWe 1 .spiWe ∧
  (∀ a, SpiPhasePasses (.spiWrOp a) 2 (.spiWrOp a)) ∧
  (∀ b, SpiPhasePasses (.spiWrLo b) 3 (.spiWrLo b)) ∧
  (∀ lo hi, SpiPhasePasses (.spiWrData lo hi) 4 (.spiWrData lo hi)) ∧
  SpiPhaseEnds .spiWd 7 .spiWd (fun _ => 0) (fun s => s.busyLast) (fun s => s.retry) ∧
  (∀ a, SpiPhasePasses (.spiRdOp a) 1 (.spiRdOp a)) ∧
  (∀ b, SpiPhasePasses (.spiRdLo b) 2 (.spiRdLo b)) ∧
  SpiPhaseEnds .spiRdData 3 .spiRdData (fun s => replyByte s 1 ++ replyByte s 0) (fun _ => false)
    (fun _ => 0)

/-- 42_spi_engine sections 2 and 3, 60_exceptions section 2: each phase whose call fails ends the
operation; a write reports the last busy value and the polls made, a read has a free `RES_DATA`
(assumption 3; 11 for the line). -/
def Obligations.SpiPhasesAbort : Prop :=
  SpiPhaseAborts .spiWe 1 .spiWe (fun _ => 0) (fun s => s.busyLast) (fun s => s.retry) ∧
  (∀ a, SpiPhaseAborts (.spiWrOp a) 2 (.spiWrOp a) (fun _ => 0) (fun s => s.busyLast)
    (fun s => s.retry)) ∧
  (∀ b, SpiPhaseAborts (.spiWrLo b) 3 (.spiWrLo b) (fun _ => 0) (fun s => s.busyLast)
    (fun s => s.retry)) ∧
  (∀ lo hi, SpiPhaseAborts (.spiWrData lo hi) 4 (.spiWrData lo hi) (fun _ => 0) (fun s => s.busyLast)
    (fun s => s.retry)) ∧
  SpiPhaseAborts .spiWd 7 .spiWd (fun _ => 0) (fun s => s.busyLast) (fun s => s.retry) ∧
  (∀ a, SpiPhaseAborts (.spiRdOp a) 1 (.spiRdOp a) (fun s => Config.freeData (s.draws + 1))
    (fun _ => false) (fun _ => 0)) ∧
  (∀ b, SpiPhaseAborts (.spiRdLo b) 2 (.spiRdLo b) (fun s => Config.freeData (s.draws + 1))
    (fun _ => false) (fun _ => 0)) ∧
  SpiPhaseAborts .spiRdData 3 .spiRdData (fun s => Config.freeData (s.draws + 1)) (fun _ => false)
    (fun _ => 0)

/-- 40_channel_primitives section 3, 42_spi_engine section 2 (the device's part rests on assumptions 4, 9
and 22): what a successful phase leaves on the SPI line where chip select is as its flags need it, `d`
being the state with what the ready line has shown taken into account. -/
def Obligations.SpiLineFollowsTheFlags : Prop :=
  ∀ (s d t : State), s.params.wf = true → d = settleSpi s →
    (s.spiLine.cs = false → Succeeds s .spiWe → exec .spiWe s = .next t →
      t.spiLine = { cs := false, wire := [], enabled := true, cycle := d.spiLine.cycle } ∧
      t.spiMem = d.spiMem ∧ t.spiPending = d.spiPending) ∧
    (∀ a, s.spiLine.cs = false → Succeeds s (.spiWrOp a) → exec (.spiWrOp a) s = .next t →
      t.spiLine = { d.spiLine with cs := true, wire := bitsOf (0b101#3 ++ a) } ∧
      t.spiMem = d.spiMem ∧ t.spiPending = d.spiPending) ∧
    (∀ a, s.spiLine.cs = false → Succeeds s (.spiRdOp a) → exec (.spiRdOp a) s = .next t →
      t.spiLine = { d.spiLine with cs := true, wire := bitsOf (0b110#3 ++ a) } ∧
      t.spiMem = d.spiMem ∧ t.spiPending = d.spiPending) ∧
    (∀ b, Succeeds s (.spiWrLo b) → exec (.spiWrLo b) s = .next t →
      t.spiLine = { d.spiLine with wire := s.spiLine.wire ++ bitsOf b } ∧
      t.spiMem = d.spiMem ∧ t.spiPending = d.spiPending) ∧
    (∀ b, Succeeds s (.spiRdLo b) → exec (.spiRdLo b) s = .next t →
      t.spiLine = { d.spiLine with wire := s.spiLine.wire ++ bitsOf b ++ [false] } ∧
      t.spiMem = d.spiMem ∧ t.spiPending = d.spiPending) ∧
    (∀ (A : BitVec 8) lo hi, s.spiLine.cs = true → s.spiLine.wire = bitsOf (0b101#3 ++ A) →
      Succeeds s (.spiWrData lo hi) → exec (.spiWrData lo hi) s = .next t →
      t.spiLine = { d.spiLine with cs := false, wire := [], cycle := true } ∧
      t.spiPending = some (A.toNat, hi ++ lo) ∧
      ∀ B, B ≠ A → readSpi t B = readSpi s B) ∧
    (∀ A : BitVec 8, s.spiLine.cs = true → s.spiLine.wire = bitsOf (0b110#3 ++ A ++ 0#1) →
      Succeeds s .spiRdData → exec .spiRdData s = .next t →
      t.spiLine = { d.spiLine with cs := false, wire := [] } ∧
      t.spiMem = d.spiMem ∧ t.spiPending = d.spiPending) ∧
    (s.spiLine.cs = false → d.spiLine.cycle = false → Succeeds s .spiWd → exec .spiWd s = .next t →
      t.spiLine = { cs := false, wire := [], enabled := false, cycle := false } ∧
      t.spiMem = d.spiMem ∧ t.spiPending = d.spiPending)

/-- 42_spi_engine section 2, steps 5 and 6 (assumption 11 for the line after a failure, 13 for the sub-step,
22 for a cycle that the ready line has shown ended): the strobe
asserts chip select and the polls come next; the release goes on to the last step; either ends the
operation where its call fails. -/
def Obligations.StrobeAndReleaseSteps : Prop :=
  ∀ s : State, s.params.wf = true → s.engine = .running → s.inputs = [] → s.argOp = 2 →
    (s.phase = 5 → s.polling = false → Succeeds s .spiStrobe →
      ∃ t, step s = .next t ∧ SameI2c s t ∧
        engineView t = engineView { phaseCalled 5 .spiStrobe s with polling := true, retry := 0 } ∧
        (s.spiLine.cs = false → t.spiLine = { (settleSpi s).spiLine with cs := true, wire := [] })) ∧
    (s.phase = 6 → Succeeds s .spiRelease →
      ∃ t, step s = .next t ∧ SameI2c s t ∧
        engineView t = engineView { phaseCalled 6 .spiRelease s with phase := 7 } ∧
        (s.spiLine.cs = true → s.spiLine.wire = [] →
          t.spiLine = { (settleSpi s).spiLine with cs := false } ∧ ∀ A, readSpi t A = readSpi s A)) ∧
    (∀ e r, ((s.phase = 5 ∧ s.polling = false ∧ r = Request.spiStrobe) ∨
        (s.phase = 6 ∧ r = Request.spiRelease)) → FailsWith s r e →
      ∃ t, step s = .next t ∧ SameI2c s t ∧ t.spiLine = (nextReply s).spiAfter ∧
        engineView t = engineView { phaseCalled s.phase r s with
          resStatus := e.code, resData := 0, resBusy := s.busyLast, resRetries := s.retry
          resDone := true, engine := .idle, polling := false })

/-- 42_spi_engine section 2, step 5; 40_channel_primitives section 1: one `IsBusy()`. A failing call ends
the operation with the busy value of the last good one; a busy device below the budget is polled again;
else the operation goes on to step 6. The call changes nothing that the channel or the device holds
(assumption 22): what a word reads as changes in one case only, where a device selected has shown ready
and the word is the one being written, which has then committed (assumption 4). -/
def Obligations.BusyPollStep : Prop :=
  ∀ (s : State) (a : Reply), s.params.wf = true → s.engine = .running → s.inputs = [] → s.argOp = 2 →
    s.phase = 5 → s.polling = true → nextReply s = a → a.returns = true →
    ∃ t, step s = .next t ∧ SameI2c s t ∧ t.fb = s.fb ∧ t.retry = s.retry + 1 ∧
      t.trace = s.trace ++ [.isBusy (Status.ofCode a.code) a.busy] ∧ t.draws = s.draws + 1 ∧
      t.replies = s.replies.tail ∧ t.argAddr = s.argAddr ∧ t.argData = s.argData ∧ t.params = s.params ∧
      t.spiLine = s.spiLine ∧ t.spiPending = s.spiPending ∧ t.spiMem = s.spiMem ∧
      (Status.ofCode a.code ≠ .ok →
        t.resStatus = (Status.ofCode a.code).code ∧ t.resData = 0 ∧ t.resBusy = s.busyLast ∧
        t.resRetries = s.retry + 1 ∧ t.resDone = true ∧ t.engine = .idle ∧ t.phase = 5 ∧
        SameSpi s t) ∧
      (Status.ofCode a.code = .ok → a.busy = true → (s.retry + 1).toNat < s.params.spiBusyBudget →
        t.busyLast = true ∧ t.phase = 5 ∧ t.polling = true ∧ t.engine = .running ∧
        t.resDone = s.resDone ∧ SameSpi s t) ∧
      (Status.ofCode a.code = .ok → a.busy = true → s.params.spiBusyBudget ≤ (s.retry + 1).toNat →
        t.busyLast = true ∧ t.phase = 6 ∧ t.polling = false ∧ t.engine = .running ∧
        t.resDone = s.resDone ∧ SameSpi s t) ∧
      (Status.ofCode a.code = .ok → a.busy = false →
        t.busyLast = false ∧ t.phase = 6 ∧ t.polling = false ∧ t.engine = .running ∧
        t.resDone = s.resDone ∧
        (s.spiLine.cs = true → (settleSpi t).spiLine.cycle = false ∧ (settleSpi t).spiPending = none) ∧
        (s.spiLine.cs = false → SameSpi s t)) ∧
      (∀ (A : BitVec 8) (v : DataWord), Status.ofCode a.code = .ok → a.busy = false →
        s.spiLine.cs = true → s.spiPending = some (A.toNat, v) → readSpi t A = some v) ∧
      (∀ A : BitVec 8, (Status.ofCode a.code = .ok → a.busy = false → s.spiLine.cs = true →
        ∀ v, s.spiPending ≠ some (A.toNat, v)) → readSpi t A = readSpi s A)

/-! ## The whole frames -/

/-- The model's reading of the four wire-frame rows (assumption 17; 30_encoding section 6 gives their
bits): a whole frame is the transfers that send it, one after the other, of which the first that fails ends
the operation. -/
def Obligations.FramesAreTheirTransfers : Prop :=
  (∀ s : State, exec (.spiFrameWriteEnable engineX) s = exec .spiWe s ∧
    exec (.spiFrameWriteDisable engineX) s = exec .spiWd s) ∧
  (∀ (s t : State) (a : BitVec 8) (lo hi : Byte), exec (.spiWrOp (hi5 a)) s = .next t →
    (∀ e, FailsWith s (.spiWrOp (hi5 a)) e → exec (.spiFrameWrite a lo hi) s = .next t) ∧
    (Succeeds s (.spiWrOp (hi5 a)) → ∀ u, exec (.spiWrLo (lo3 a)) t = .next u →
      (∀ e, FailsWith t (.spiWrLo (lo3 a)) e → exec (.spiFrameWrite a lo hi) s = .next u) ∧
      (Succeeds t (.spiWrLo (lo3 a)) → exec (.spiFrameWrite a lo hi) s = exec (.spiWrData lo hi) u))) ∧
  (∀ (s t : State) (a : BitVec 8), exec (.spiRdOp (hi5 a)) s = .next t →
    (∀ e, FailsWith s (.spiRdOp (hi5 a)) e → exec (.spiFrameRead a) s = .next t) ∧
    (Succeeds s (.spiRdOp (hi5 a)) → ∀ u, exec (.spiRdLo (lo3 a)) t = .next u →
      (∀ e, FailsWith t (.spiRdLo (lo3 a)) e → exec (.spiFrameRead a) s = .next u) ∧
      (Succeeds t (.spiRdLo (lo3 a)) → exec (.spiFrameRead a) s = exec .spiRdData u)))

/-- 30_encoding section 6 for the bits; the meaning of a frame row is assumption 17, the device's part
assumptions 4, 9 and 22: each whole frame completes where its calls succeed, whether their answers are
scripted or drawn: the calls it makes, the phase it leaves the operation at or the result it ends it with,
and what it leaves alone. -/
def Obligations.FramesComplete : Prop :=
  (∀ (s : State) (x : BitVec 4), s.params.wf = true → Succeeds s (.spiNineBits (0b10011#5 ++ x)) →
    ∃ t, exec (.spiFrameWriteEnable x) s = .next t ∧ SameI2c s t ∧
      engineView t =
        engineView { phaseCalled 1 (.spiNineBits (0b10011#5 ++ x)) s with phase := 2 } ∧
      (s.spiLine.cs = false → t.spiLine =
          { cs := false, wire := [], enabled := true, cycle := (settleSpi s).spiLine.cycle } ∧
        ∀ B, readSpi t B = readSpi s B)) ∧
  (∀ (s : State) (x : BitVec 4), s.params.wf = true → Succeeds s (.spiNineBits (0b10000#5 ++ x)) →
    ∃ t, exec (.spiFrameWriteDisable x) s = .next t ∧ SameI2c s t ∧
      engineView t = engineView { phaseCalled 7 (.spiNineBits (0b10000#5 ++ x)) s with
        resStatus := 0, resData := 0, resBusy := s.busyLast, resRetries := s.retry
        resDone := true, engine := .idle, polling := false } ∧
      (s.spiLine.cs = false → (∀ B, readSpi t B = readSpi s B) ∧
        ((settleSpi s).spiLine.cycle = false →
          t.spiLine = { cs := false, wire := [], enabled := false, cycle := false }))) ∧
  (∀ (s : State) (A : BitVec 8) (lo hi : Byte) (a b c : Reply),
    s.params.wf = true → replyAt s 0 = a → replyAt s 1 = b → replyAt s 2 = c →
    a.returns = true → replyStatus (.spiWrOp (hi5 A)) a = .ok →
    b.returns = true → replyStatus (.spiWrLo (lo3 A)) b = .ok →
    c.returns = true → replyStatus (.spiWrData lo hi) c = .ok →
    ∃ t, exec (.spiFrameWrite A lo hi) s = .next t ∧ SameI2c s t ∧
      engineView t = engineView { s with
        phase := 5, fb := [lo, hi] ++ List.replicate (s.params.fbCap - 2) 0
        trace := s.trace ++ [recordOf (.spiWrOp (hi5 A)) a, recordOf (.spiWrLo (lo3 A)) b,
          recordOf (.spiWrData lo hi) c]
        replies := s.replies.drop 3, draws := s.draws + 3 } ∧
      (s.spiLine.cs = false →
        t.spiLine = { s.spiLine with cs := false, wire := [], cycle := true } ∧
        t.spiPending = some (A.toNat, hi ++ lo) ∧ ∀ B, B ≠ A → readSpi t B = readSpi s B)) ∧
  (∀ (s : State) (A : BitVec 8) (a b c : Reply) (x y : Byte),
    s.params.wf = true → replyAt s 0 = a → replyAt s 1 = b → replyAt s 2 = c → c.bytes = [x, y] →
    a.returns = true → replyStatus (.spiRdOp (hi5 A)) a = .ok →
    b.returns = true → replyStatus (.spiRdLo (lo3 A)) b = .ok →
    c.returns = true → replyStatus .spiRdData c = .ok →
    ∃ t, exec (.spiFrameRead A) s = .next t ∧ SameI2c s t ∧
      engineView t = engineView { s with
        phase := 3, fb := [x, y] ++ List.replicate (s.params.fbCap - 2) 0
        trace := s.trace ++ [recordOf (.spiRdOp (hi5 A)) a, recordOf (.spiRdLo (lo3 A)) b,
          recordOf .spiRdData c]
        replies := s.replies.drop 3, draws := s.draws + 3
        resStatus := 0, resData := y ++ x, resBusy := false, resRetries := 0, resDone := true
        engine := .idle, polling := false } ∧
      (s.spiLine.cs = false →
        t.spiLine = { (settleSpi s).spiLine with cs := false, wire := [] } ∧
        t.spiMem = (settleSpi s).spiMem ∧ t.spiPending = (settleSpi s).spiPending))

/-! ## Frames over all instructions -/

/-- 10_state sections 2, 7 and 9: no phase or frame, and no turn of the engine (the strobe, the ready-line
poll and the release among them), writes an operand register, a handle input or a parameter; a turn uses up
the one move that gave it. -/
def Obligations.PhasesLeaveTheOperandsAlone : Prop :=
  (∀ (i : Instr) (s t : State), (∀ w, encode i ≠ .command w) → exec i s = .next t →
    t.argOp = s.argOp ∧ t.argDev = s.argDev ∧ t.argLoc = s.argLoc ∧ t.argAddr = s.argAddr ∧
    t.argData = s.argData ∧ t.i2cChValid = s.i2cChValid ∧ t.spiChValid = s.spiChValid ∧
    t.params = s.params ∧ t.inputs = s.inputs) ∧
  (∀ s t : State, s.engine = .running → step s = .next t →
    (s.inputs = [] ∨ (∃ rest, s.inputs = .engine :: rest) ∨ ∃ rest, s.inputs = .engineFrame :: rest) →
    t.argOp = s.argOp ∧ t.argDev = s.argDev ∧ t.argLoc = s.argLoc ∧ t.argAddr = s.argAddr ∧
    t.argData = s.argData ∧ t.i2cChValid = s.i2cChValid ∧ t.spiChValid = s.spiChValid ∧
    t.params = s.params ∧ t.inputs = s.inputs.tail)

/-- 20_memory sections 1 and 4, 10_state section 8: which instruction touches which cell of which device:
the primary write its own, an acknowledged poll the one being written, the end of a write frame the word
it addresses; nothing else any, as long as the location of an I2C operation is in range and chip select
is used as the phases need it (the model's device: assumptions 4, 8, 12, 18, 22, 26). -/
def Obligations.DeviceArraysFrame : Prop :=
  ∀ (i : Instr) (s t : State), exec i s = .next t →
    (∀ (slave : BitVec 7) (reg : Byte), (∀ d, i ≠ .i2cPrimary slave reg d) →
      ((∃ sl r d, i = .i2cPrimary sl r d ∨ i = .i2cPoll sl r ∨ i = .i2cSetup sl r ∨ i = .i2cRead sl) →
        locationInRange s = true) →
      ((∃ sl r, i = .i2cPoll sl r) → ∀ v, s.i2cPending ≠ some (i2cCell slave reg, v)) →
      readI2c t slave reg = readI2c s slave reg) ∧
    (∀ addr : BitVec 8, csFits i s.spiLine.cs = true →
      (∀ lo hi v, i = .spiWrData lo hi →
        frameWrites (.spiWrData lo hi) s.spiLine ≠ some (addr.toNat, v)) →
      (∀ lo hi, i ≠ .spiFrameWrite addr lo hi) →
      readSpi t addr = readSpi s addr)

/-- 20_memory section 5, 60_exceptions section 2: an instruction appends its channel calls to the trace,
at most three, and drops or reorders none; each uses one answer. -/
def Obligations.TraceGrowsByTheCallsMade : Prop :=
  ∀ (i : Instr) (s t : State), exec i s = .next t →
    ∃ calls : List Call, t.trace = s.trace ++ calls ∧ calls.length ≤ 3 ∧
      t.draws = s.draws + calls.length ∧ t.replies = s.replies.drop calls.length

/-- 30_encoding section 2, 41_i2c_engine section 2: every transfer a step makes is a well-formed request
of the running operation's own bus: no flag of the other bus, no flag without a meaning, exactly the
leading bytes of its size; an I2C one carries the slave address of the operation. -/
def Obligations.EngineCallsAreWellFormed : Prop :=
  ∀ s t : State, step s = .next t →
    ∃ calls : List Call, t.trace = s.trace ++ calls ∧ (s.engine = .idle → calls = []) ∧
      ∀ r st n bytes, Call.xfer r st n bytes ∈ calls →
        r.wf = true ∧ r.target = (match busOf s.argOp with | .i2c => .i2c s.slave | .spi => .spi)

/-- 40_channel_primitives section 4 (the call that never returns): no phase, no frame and no turn of a
running engine (the strobe, the ready-line poll and the release among them) has a next state where its
first call never returns (a fault in the model: assumption 10). -/
def Obligations.HungCallHasNoNextState : Prop :=
  (∀ (i : Instr) (s : State), (∀ w, encode i ≠ .command w) → (nextReply s).returns = false →
    exec i s = .fault .callNeverReturns) ∧
  (∀ s : State, s.engine = .running → sequence s ≠ .outOfTable → (nextReply s).returns = false →
    (s.inputs = [] ∨ (∃ rest, s.inputs = .engine :: rest) ∨ ∃ rest, s.inputs = .engineFrame :: rest) →
    step s = .fault .callNeverReturns)

/-! ## Whole operations -/

/-- 41_i2c_engine section 2: after a good primary write, failed polls below the budget and then an
acknowledged one make `I2C_WRITE_BYTE` to a location in range end with `OK`, the count of polls, exactly
these calls, and the byte committed in its cell and no other cell changed (the model's device: assumptions
4 and 18). -/
def Obligations.I2cWriteEndsAtTheFirstAcknowledgedPoll : Prop :=
  ∀ (s : State) (dev : BitVec 7) (loc : BitVec 11) (data : Byte) (p : Reply) (fails : List Reply)
    (good : Reply) (rest : List Reply) (later : List Input),
    s.params.wf = true → Instr.wf s.params (.i2cWriteByte dev loc data) = true → s.engine = .idle →
    s.i2cChValid = true →
    s.inputs = .cmd (commandI 0 dev loc data) :: List.replicate (fails.length + 2) .engine ++ later →
    s.replies = p :: fails ++ good :: rest → fails.length < s.params.i2cRetryBudget →
    p.returns = true → replyStatus (.i2cPrimary (slaveOf dev loc) (regOf loc) data) p = .ok →
    (∀ a ∈ fails, a.returns = true ∧
      replyStatus (.i2cPoll (slaveOf dev loc) (regOf loc)) a ≠ .ok) →
    good.returns = true → replyStatus (.i2cPoll (slaveOf dev loc) (regOf loc)) good = .ok →
    ∃ t, Sys2Proof.core.run (fails.length + 3) s = .next t ∧ t.engine = .idle ∧ t.resDone = true ∧
      t.resStatus = 0 ∧ t.resData = 0 ∧ t.resBusy = false ∧ t.resRetries.toNat = fails.length + 1 ∧
      t.argOp = 0 ∧ t.argDev = dev ∧ t.argLoc = loc ∧ t.argData = 0#8 ++ data ∧ t.argAddr = 0 ∧
      t.trace = s.trace ++ recordOf (.i2cPrimary (slaveOf dev loc) (regOf loc) data) p ::
        (fails ++ [good]).map (recordOf (.i2cPoll (slaveOf dev loc) (regOf loc))) ∧
      t.replies = rest ∧ t.inputs = later ∧ t.params = s.params ∧ t.i2cChValid = true ∧
      t.spiChValid = s.spiChValid ∧ SameSpi s t ∧
      t.i2cLine = { opened := true, cycle := false } ∧ t.i2cPending = none ∧
      readI2c t (slaveOf dev loc) (regOf loc) = some data ∧
      ∀ slave reg, (slave ≠ slaveOf dev loc ∨ reg ≠ regOf loc) →
        readI2c t slave reg = readI2c s slave reg

/-- 41_i2c_engine section 2: where no poll succeeds, `I2C_WRITE_BYTE` to a location in range ends after
exactly `I2C_RETRY_BUDGET` polls with the status of the last one (the line is the last answer's, assumption
11; no cell but its own is changed, assumptions 4 and 18). -/
def Obligations.I2cWriteExhaustsItsBudget : Prop :=
  ∀ (s : State) (dev : BitVec 7) (loc : BitVec 11) (data : Byte) (p : Reply) (fails : List Reply)
    (last : Reply) (rest : List Reply) (later : List Input),
    s.params.wf = true → Instr.wf s.params (.i2cWriteByte dev loc data) = true → s.engine = .idle →
    s.i2cChValid = true →
    s.inputs = .cmd (commandI 0 dev loc data) :: List.replicate (fails.length + 2) .engine ++ later →
    s.replies = p :: fails ++ last :: rest → fails.length + 1 = s.params.i2cRetryBudget →
    p.returns = true → replyStatus (.i2cPrimary (slaveOf dev loc) (regOf loc) data) p = .ok →
    (∀ a ∈ fails ++ [last], a.returns = true ∧
      replyStatus (.i2cPoll (slaveOf dev loc) (regOf loc)) a ≠ .ok) →
    ∃ t, Sys2Proof.core.run (fails.length + 3) s = .next t ∧ t.engine = .idle ∧ t.resDone = true ∧
      t.resStatus = (replyStatus (.i2cPoll (slaveOf dev loc) (regOf loc)) last).code ∧
      t.resData = 0 ∧ t.resBusy = false ∧ t.resRetries.toNat = s.params.i2cRetryBudget ∧
      t.trace = s.trace ++ recordOf (.i2cPrimary (slaveOf dev loc) (regOf loc) data) p ::
        (fails ++ [last]).map (recordOf (.i2cPoll (slaveOf dev loc) (regOf loc))) ∧
      t.replies = rest ∧ t.inputs = later ∧ SameSpi s t ∧ t.i2cLine = last.i2cAfter ∧
      ∀ slave reg, (slave ≠ slaveOf dev loc ∨ reg ≠ regOf loc) →
        readI2c t slave reg = readI2c s slave reg

/-- 41_i2c_engine section 3: `I2C_READ_BYTE` of a location in range whose two calls succeed ends with the
byte received, zero-extended, after exactly those two calls, with the bus left without a STOP. -/
def Obligations.I2cReadReturnsTheByte : Prop :=
  ∀ (s : State) (dev : BitVec 7) (loc : BitVec 11) (a b : Reply) (x : Byte) (rest : List Reply)
    (later : List Input),
    s.params.wf = true → Instr.wf s.params (.i2cReadByte dev loc) = true → s.engine = .idle →
    s.i2cChValid = true →
    s.inputs = .cmd (commandI 1 dev loc 0) :: .engine :: .engine :: later →
    s.replies = a :: b :: rest → b.bytes = [x] →
    a.returns = true → replyStatus (.i2cSetup (slaveOf dev loc) (regOf loc)) a = .ok →
    b.returns = true → replyStatus (.i2cRead (slaveOf dev loc)) b = .ok →
    ∃ t, Sys2Proof.core.run 3 s = .next t ∧ t.engine = .idle ∧ t.resDone = true ∧ t.resStatus = 0 ∧
      dataValid t = true ∧ t.resData = 0#8 ++ x ∧ t.resBusy = false ∧ t.resRetries = 0 ∧
      t.trace = s.trace ++ [recordOf (.i2cSetup (slaveOf dev loc) (regOf loc)) a,
        recordOf (.i2cRead (slaveOf dev loc)) b] ∧
      t.replies = rest ∧ t.inputs = later ∧ t.i2cLine.opened = true ∧ t.i2cMem = s.i2cMem ∧
      SameSpi s t

/-- 42_spi_engine section 2: `SPI_WRITE_WORD` whose calls return `OK` ends with `OK` whether the device
was seen ready or the busy budget ran out: seven transfers and one `IsBusy()` for each poll, the last
busy value and the count of polls in the result; and, for the model's device (assumptions 4, 9 and 22),
what it holds afterwards. -/
def Obligations.SpiWriteCompletes : Prop :=
  ∀ (s : State) (addr : BitVec 8) (data : DataWord) (r1 r2 r3 r4 r5 r6 r7 last : Reply)
    (busy rest : List Reply) (later : List Input) (hi : BitVec 5) (lo : BitVec 3),
    s.params.wf = true → s.engine = .idle → s.spiChValid = true →
    hi = writeHigh s.params.addrPacking addr → lo = writeLow s.params.addrPacking addr →
    s.inputs = .cmd (commandS 2 addr data) :: List.replicate (busy.length + 8) .engine ++ later →
    s.replies = r1 :: r2 :: r3 :: r4 :: r5 :: busy ++ last :: r6 :: r7 :: rest →
    (∀ r ∈ [r1, r2, r3, r4, r5, r6, r7], r.returns = true) →
    replyStatus .spiWe r1 = .ok → replyStatus (.spiWrOp hi) r2 = .ok → replyStatus (.spiWrLo lo) r3 = .ok →
    replyStatus (.spiWrData (wordLow data) (wordHigh data)) r4 = .ok → replyStatus .spiStrobe r5 = .ok →
    replyStatus .spiRelease r6 = .ok → replyStatus .spiWd r7 = .ok →
    (∀ a ∈ busy, a.returns = true ∧ Status.ofCode a.code = .ok ∧ a.busy = true) →
    last.returns = true → Status.ofCode last.code = .ok →
    busy.length < s.params.spiBusyBudget →
    (last.busy = true → busy.length + 1 = s.params.spiBusyBudget) →
    ∃ t, Sys2Proof.core.run (busy.length + 9) s = .next t ∧ t.engine = .idle ∧ t.resDone = true ∧
      t.resStatus = 0 ∧ t.resData = 0 ∧ t.resBusy = last.busy ∧ t.resRetries.toNat = busy.length + 1 ∧
      t.trace = s.trace ++ [recordOf .spiWe r1, recordOf (.spiWrOp hi) r2, recordOf (.spiWrLo lo) r3,
          recordOf (.spiWrData (wordLow data) (wordHigh data)) r4, recordOf .spiStrobe r5] ++
        (busy ++ [last]).map (fun a => Call.isBusy (Status.ofCode a.code) a.busy) ++
        [recordOf .spiRelease r6, recordOf .spiWd r7] ∧
      t.replies = rest ∧ t.inputs = later ∧ SameI2c s t ∧
      (s.spiLine.cs = false → s.params.addrPacking = .prose53 →
        t.spiLine.cs = false ∧
        physicalTransactions [] (t.trace.drop s.trace.length) =
          [bitsOf 0b100111110#9, bitsOf (0b101#3 ++ addr ++ wordLow data ++ wordHigh data), [],
            bitsOf 0b100001110#9] ∧
        (last.busy = false → t.spiLine.enabled = false ∧ t.spiLine.cycle = false ∧
          readSpi t addr = some data) ∧
        ∀ other, other ≠ addr → readSpi t other = readSpi s other)

/-- 42_spi_engine section 3: `SPI_READ_WORD` whose three calls succeed ends with the two bytes received as
a little-endian word, after exactly those three calls, in one physical transaction; the device stays
enabled or protected as it was, its words too (assumptions 9 and 22). -/
def Obligations.SpiReadReturnsTheWord : Prop :=
  ∀ (s : State) (addr : BitVec 8) (a b c : Reply) (x y : Byte) (rest : List Reply) (later : List Input)
    (hi : BitVec 5) (lo : BitVec 3),
    s.params.wf = true → s.engine = .idle → s.spiChValid = true →
    hi = readHigh s.params.addrPacking addr → lo = readLow s.params.addrPacking addr →
    s.inputs = .cmd (commandS 3 addr 0) :: .engine :: .engine :: .engine :: later →
    s.replies = a :: b :: c :: rest → c.bytes = [x, y] →
    a.returns = true → replyStatus (.spiRdOp hi) a = .ok → b.returns = true →
    replyStatus (.spiRdLo lo) b = .ok → c.returns = true → replyStatus .spiRdData c = .ok →
    ∃ t, Sys2Proof.core.run 4 s = .next t ∧ t.engine = .idle ∧ t.resDone = true ∧ t.resStatus = 0 ∧
      t.resData = y ++ x ∧ t.resBusy = false ∧ t.resRetries = 0 ∧
      t.trace = s.trace ++ [recordOf (.spiRdOp hi) a, recordOf (.spiRdLo lo) b, recordOf .spiRdData c] ∧
      t.replies = rest ∧ t.inputs = later ∧ SameI2c s t ∧
      (s.spiLine.cs = false → s.params.addrPacking = .prose53 →
        t.spiLine = { (settleSpi s).spiLine with cs := false, wire := [] } ∧
        t.spiMem = (settleSpi s).spiMem ∧ (∀ A, readSpi t A = readSpi s A) ∧
        physicalTransactions [] (t.trace.drop s.trace.length) = [bitsOf (0b110#3 ++ addr ++ 0#1)])

/-- 41_i2c_engine section 4 (the device of assumption 4): a byte written to a location in range with `N`
failed polls below the budget and read back from a device that answers with the byte it holds gives the
byte written. -/
def Obligations.I2cRoundTrip : Prop :=
  ∀ (s : State) (dev : BitVec 7) (loc : BitVec 11) (d x : Byte) (p good a b : Reply)
    (fails rest : List Reply) (later : List Input),
    s.params.wf = true → Instr.wf s.params (.i2cWriteByte dev loc d) = true →
    Instr.wf s.params (.i2cReadByte dev loc) = true → s.engine = .idle → s.i2cChValid = true →
    s.inputs = .cmd (commandI 0 dev loc d) :: List.replicate (fails.length + 2) .engine ++
      .cmd (commandI 1 dev loc 0) :: .engine :: .engine :: later →
    s.replies = p :: fails ++ good :: a :: b :: rest → fails.length < s.params.i2cRetryBudget →
    p.returns = true → replyStatus (.i2cPrimary (slaveOf dev loc) (regOf loc) d) p = .ok →
    (∀ f ∈ fails, f.returns = true ∧ replyStatus (.i2cPoll (slaveOf dev loc) (regOf loc)) f ≠ .ok) →
    good.returns = true → replyStatus (.i2cPoll (slaveOf dev loc) (regOf loc)) good = .ok →
    a.returns = true → replyStatus (.i2cSetup (slaveOf dev loc) (regOf loc)) a = .ok →
    b.returns = true → replyStatus (.i2cRead (slaveOf dev loc)) b = .ok → b.bytes = [x] →
    (∀ u, Sys2Proof.core.run (fails.length + 3) s = .next u →
      readI2c u (slaveOf dev loc) (regOf loc) = some x) →
    (∃ u, Sys2Proof.core.run (fails.length + 3) s = .next u ∧ u.resStatus = 0 ∧
      u.resRetries.toNat = fails.length + 1) ∧
    ∃ t, Sys2Proof.core.run (fails.length + 6) s = .next t ∧ t.resDone = true ∧ t.resStatus = 0 ∧
      t.resData = 0#8 ++ d

/-- 20_memory section 5 and 70_reset section 4: every operation ends: from any point of one, if every call
returns (its answer scripted or drawn) and reset does not strike, whatever the other agents do in between,
it is over with a result after at most as many calls as the rule on timing allows; alone, in exactly one
step for each call. -/
def Obligations.EveryOperationEnds : Prop :=
  ∀ s : State, Inv s → s.engine = .running → (∀ l p, .reset l p ∉ s.inputs) →
    (∀ n, n < callBound s → (replyAt s n).returns = true) →
    ∃ n t, n ≤ s.inputs.length + callBound s ∧ Sys2Proof.core.run n s = .next t ∧ t.engine = .idle ∧
      t.resDone = true ∧ t.trace.length ≤ s.trace.length + callBound s ∧
      (s.inputs = [] → n ≤ callBound s ∧ t.trace.length = s.trace.length + n)

/-! ## The whole machine -/

/-- 10_state section 10: the values the spec gives for reset; and that after reset the engine is idle with
both handles 0. -/
def Obligations.ResetValues : Prop :=
  State.reset.engine = .idle ∧ State.reset.phase = 0 ∧ State.reset.retry = 0 ∧
  State.reset.busyLast = false ∧ State.reset.resDone = false ∧ resultValid State.reset = false ∧ State.reset.i2cChValid = false ∧
  State.reset.spiChValid = false ∧ State.reset.trace = []

/-- The invariant holds after reset (its operand and buffer parts rest on the values of assumption 7). -/
def Obligations.InvHoldsAtReset : Prop :=
  Inv State.reset

/-- 10_state sections 2 to 5, 41_i2c_engine section 2, 42_spi_engine section 2: every step keeps the
invariant: parameters in range, buffer at its capacity, device arrays canonical, unused operands zero,
`PHASE` in its table, `RETRY` within the budget, and a result that can be read as its rules say. -/
def Obligations.StepKeepsInv : Prop :=
  ∀ s t : State, Inv s → step s = .next t → Inv t

/-- 60_exceptions sections 2 and 5, 40_channel_primitives section 2: whatever the oracle answers, a step
has a next state, but where a call never returns (the fault of assumption 10); it is never refused. Where
the calls it may make return, it has one: one call on a turn, three on a frame turn. -/
def Obligations.OnlyAHungCallStopsTheMachine : Prop :=
  ∀ s : State, Inv s →
    ((∃ t, step s = .next t) ∨ step s = .fault .callNeverReturns) ∧
    ((nextReply s).returns = true → (∀ rest, s.inputs ≠ .engineFrame :: rest) → ∃ t, step s = .next t) ∧
    ((∀ n, n < 3 → (replyAt s n).returns = true) → ∃ t, step s = .next t)

/-- 60_exceptions R177: the status an operation ends with is the effective status of the last call it made;
beside that the block writes only `NotOpened` and `InvalidParameter`, to a command it gives no call (and
the reset value, when reset strikes). -/
def Obligations.StatusIsTheLastCallsVerbatim : Prop :=
  ∀ s t : State, step s = .next t → (∀ l p rest, s.inputs ≠ .reset l p :: rest) →
    (s.engine = .running → t.engine = .idle → ∃ (calls : List Call) (last : Call),
      t.trace = s.trace ++ calls ++ [last] ∧
      t.resStatus = (match last with
        | .xfer r st n _ => (eff st n r.size).code
        | .isBusy st _ => st.code)) ∧
    (s.engine = .running → t.engine = .running → t.resStatus = s.resStatus) ∧
    (s.engine = .idle → t.resStatus = s.resStatus ∨ t.resStatus = Status.notOpened.code ∨
      t.resStatus = Status.invalidParameter.code)

/-- 60_exceptions R182: after any failure the block is idle and accepts the next command. -/
def Obligations.NothingIsFatal : Prop :=
  ∀ s t : State, Inv s → step s = .next t → t.resDone = true → t.resStatus ≠ Status.ok.code →
    t.engine = .idle ∧
    ∀ (w : CommandWord) (i : Instr) (rest : List Input), decode (.command w) = .ok i →
      handleOf (busOf (w.extractLsb' 30 2)) t = true →
      ∃ u, step { t with inputs := .cmd w :: rest } = .next u ∧ u.engine = .running ∧
        u.argOp = w.extractLsb' 30 2

/-- 10_state section 8: nothing the channels or the devices hold is seen by the engine or the host but
through the answers to its calls, and every answer is the oracle's (assumptions 2 and 4): two states that
differ only there step to states that differ only there. -/
def Obligations.EngineDoesNotSeeTheDevices : Prop :=
  ∀ s s' : State, engineView s = engineView s' → sameToEngine (step s) (step s')

/-- 10_state sections 5 and 7: nothing an earlier operation or phase left in the frame buffer or in the
result registers is read: two states that differ only there make the same calls and end with the same
result. -/
def Obligations.EngineForgetsThePast : Prop :=
  ∀ s s' t : State, forgetPast s = forgetPast s' → step s = .next t →
    ∃ t', step s' = .next t' ∧ forgetPast t' = forgetPast t ∧
      (s.engine = .running → t.engine = .idle →
        t'.resStatus = t.resStatus ∧ t'.resData = t.resData ∧ t'.resBusy = t.resBusy ∧
        t'.resRetries = t.resRetries)

/-- 42_spi_engine section 4: an operation accepted with chip select deasserted begins, and every move of
the engine, of a frame turn and of the other agents goes on, with chip select asserted exactly where the
phases say; no call of a step asserts it where it is asserted or deasserts it where it is not; and a
complete operation leaves it deasserted. -/
def Obligations.ChipSelectDiscipline : Prop :=
  ∀ s t : State, Inv s → CsInv s → (s.engine = .idle → s.spiLine.cs = false) → step s = .next t →
    CsInv t ∧
    (s.engine = .running → busOf s.argOp = .spi → t.engine = .idle → t.resDone = true →
      t.resStatus = Status.ok.code → t.spiLine.cs = false) ∧
    ∃ calls, t.trace = s.trace ++ calls ∧
      (s.engine = .running → busOf s.argOp = .spi → csDisciplined s.spiLine.cs calls = true)

/-- 20_memory section 1, 70_reset section 3 (the location is the caller's duty): the engine does not look at
`I2C_LOC_LIMIT`, so every step and every instruction does the same, as far as the engine and the host see,
whether the location is in range or not; what is stated of an I2C operation with a location in range holds
of it at every location but for the device. There nothing is known of the device's cells after a write to
a location out of range (the model's choice, assumption 26). -/
def Obligations.LocationIsNotChecked : Prop :=
  (∀ s s' : State, limitlessView s = limitlessView s' → sameUpTo limitlessView (step s) (step s')) ∧
  (∀ (i : Instr) (s s' : State), limitlessView s = limitlessView s' →
    sameUpTo limitlessView (exec i s) (exec i s')) ∧
  (∀ (s t : State) (slave : BitVec 7) (reg data : Byte), locationInRange s = false →
    exec (.i2cPrimary slave reg data) s = .next t → t.i2cMem = [] ∧ t.i2cPending = none)
end

