-- ==== Sys2Proof/Laws/Mem.lean ====
section
/-! SUPPORT. The laws of the device arrays: read after write, write elsewhere, the canonical form. -/

namespace Sys2Proof.Machine

variable {w : Nat}

@[simp] theorem readCell_nil (addr : Nat) : readCell ([] : Cells w) addr = none := rfl

theorem readCell_cons (k addr : Nat) (v : BitVec w) (m : Cells w) :
    readCell ((k, v) :: m) addr = if k = addr then some v else readCell m addr := rfl

theorem readCell_eq_none_of_lt (m : Cells w) (addr : Nat) (h : ∀ x ∈ m, addr < x.1) :
    readCell m addr = none := by
  induction m with
  | nil => rfl
  | cons x m ih =>
    have hx : addr < x.1 := h x (by simp)
    rw [readCell_cons, if_neg (by omega)]
    exact ih fun y hy => h y (by simp [hy])

/-- Read after write, at the same address. -/
@[simp] theorem readCell_writeCell_same (m : Cells w) (addr : Nat) (v : BitVec w) :
    readCell (writeCell m addr v) addr = some v := by
  induction m with
  | nil => simp [writeCell, readCell_cons]
  | cons x m ih =>
    obtain ⟨k, u⟩ := x
    simp only [writeCell]
    split
    · simp [readCell_cons]
    · split
      · simp [readCell_cons]
      · rename_i h
        rw [readCell_cons, if_neg (fun e => h e.symm), ih]

/-- A write leaves every other address alone. -/
theorem readCell_writeCell_other (m : Cells w) (addr other : Nat) (v : BitVec w) (h : other ≠ addr) :
    readCell (writeCell m addr v) other = readCell m other := by
  induction m with
  | nil => simp [writeCell, readCell_cons, h.symm]
  | cons x m ih =>
    obtain ⟨k, u⟩ := x
    simp only [writeCell]
    split
    · rw [readCell_cons, if_neg h.symm]
    · split
      · rename_i hk
        subst hk
        rw [readCell_cons, if_neg h.symm, readCell_cons, if_neg h.symm]
      · rw [readCell_cons, readCell_cons, ih]

/-- The addresses listed after a write: the old ones and the written one. -/
theorem mem_writeCell (m : Cells w) (addr : Nat) (v : BitVec w) (x : Nat × BitVec w)
    (h : x ∈ writeCell m addr v) : x.1 = addr ∨ x ∈ m := by
  induction m with
  | nil =>
    simp only [writeCell, List.mem_singleton] at h
    exact .inl (by rw [h])
  | cons y m ih =>
    obtain ⟨k, u⟩ := y
    simp only [writeCell] at h
    split at h
    · rcases List.mem_cons.1 h with h | h
      · exact .inl (by rw [h])
      · exact .inr h
    · split at h
      · rcases List.mem_cons.1 h with h | h
        · exact .inl (by rw [h])
        · exact .inr (by simp [h])
      · rcases List.mem_cons.1 h with h | h
        · exact .inr (by simp [h])
        · rcases ih h with h | h
          · exact .inl h
          · exact .inr (by simp [h])

theorem writeCell_pairwise (m : Cells w) (addr : Nat) (v : BitVec w)
    (h : m.Pairwise fun x y => x.1 < y.1) :
    (writeCell m addr v).Pairwise fun x y => x.1 < y.1 := by
  induction m with
  | nil => simp [writeCell]
  | cons y m ih =>
    obtain ⟨k, u⟩ := y
    rw [List.pairwise_cons] at h
    obtain ⟨hk, hm⟩ := h
    simp only [writeCell]
    split
    · rename_i hlt
      refine List.pairwise_cons.2 ⟨fun x hx => ?_, List.pairwise_cons.2 ⟨hk, hm⟩⟩
      rcases List.mem_cons.1 hx with hx | hx
      · rw [hx]; exact hlt
      · exact Nat.lt_trans hlt (hk x hx)
    · split
      · rename_i heq
        exact List.pairwise_cons.2 ⟨fun x hx => by rw [heq]; exact hk x hx, hm⟩
      · rename_i hlt hne
        refine List.pairwise_cons.2 ⟨fun x hx => ?_, ih hm⟩
        rcases mem_writeCell m addr v x hx with hx | hx
        · show k < x.1
          omega
        · exact hk x hx

/-- The canonical form, spelled out. -/
theorem cellsWf_iff (size : Nat) (m : Cells w) :
    cellsWf size m = true ↔ (m.Pairwise fun x y => x.1 < y.1) ∧ ∀ x ∈ m, x.1 < size := by
  simp only [cellsWf, Bool.and_eq_true, decide_eq_true_eq, List.all_eq_true]

/-- A write to an address of the space keeps the canonical form. -/
theorem writeCell_wf (size : Nat) (m : Cells w) (addr : Nat) (v : BitVec w) (ha : addr < size)
    (h : cellsWf size m = true) : cellsWf size (writeCell m addr v) = true := by
  rw [cellsWf_iff] at h ⊢
  refine ⟨writeCell_pairwise m addr v h.1, fun x hx => ?_⟩
  rcases mem_writeCell m addr v x hx with hx | hx
  · omega
  · exact h.2 x hx

theorem i2cCell_lt (slave : BitVec 7) (reg : Byte) : i2cCell slave reg < i2cCells := by
  have := slave.isLt
  have := reg.isLt
  simp only [i2cCell, i2cCells]
  omega

/-- Two places of the I2C device are one cell only if they are the same place. -/
theorem i2cCell_inj (slave slave' : BitVec 7) (reg reg' : Byte) :
    i2cCell slave reg = i2cCell slave' reg' ↔ slave = slave' ∧ reg = reg' := by
  have := reg.isLt
  have := reg'.isLt
  simp only [i2cCell, BitVec.toNat_inj.symm]
  omega

end Sys2Proof.Machine
end

