-- ==== Sys2Proof/Laws/Requests.lean ====
section
/-! SUPPORT. The fields of each phase's request, so that no later proof unfolds one. -/

namespace Sys2Proof

section
variable (slave : BitVec 7) (reg data : Byte)

@[simp] theorem Request.i2cPrimary_target : (Request.i2cPrimary slave reg data).target = .i2c slave := rfl
@[simp] theorem Request.i2cPrimary_dir : (Request.i2cPrimary slave reg data).dir = .write := rfl
@[simp] theorem Request.i2cPrimary_buf : (Request.i2cPrimary slave reg data).buf = [reg, data] := rfl
@[simp] theorem Request.i2cPrimary_size : (Request.i2cPrimary slave reg data).size = 2 := rfl
@[simp] theorem Request.i2cPrimary_opts :
    (Request.i2cPrimary slave reg data).opts = { startBit := true, stopBit := true } := rfl

end

section
variable (slave : BitVec 7) (reg : Byte)

@[simp] theorem Request.i2cPoll_target : (Request.i2cPoll slave reg).target = .i2c slave := rfl
@[simp] theorem Request.i2cPoll_dir : (Request.i2cPoll slave reg).dir = .write := rfl
@[simp] theorem Request.i2cPoll_buf : (Request.i2cPoll slave reg).buf = [reg] := rfl
@[simp] theorem Request.i2cPoll_size : (Request.i2cPoll slave reg).size = 1 := rfl
@[simp] theorem Request.i2cPoll_opts :
    (Request.i2cPoll slave reg).opts = { startBit := true, breakOnNack := true } := rfl

end

section
variable (slave : BitVec 7) (reg : Byte)

@[simp] theorem Request.i2cSetup_target : (Request.i2cSetup slave reg).target = .i2c slave := rfl
@[simp] theorem Request.i2cSetup_dir : (Request.i2cSetup slave reg).dir = .write := rfl
@[simp] theorem Request.i2cSetup_buf : (Request.i2cSetup slave reg).buf = [reg] := rfl
@[simp] theorem Request.i2cSetup_size : (Request.i2cSetup slave reg).size = 1 := rfl
@[simp] theorem Request.i2cSetup_opts : (Request.i2cSetup slave reg).opts = { startBit := true } := rfl

end

section
variable (slave : BitVec 7)

@[simp] theorem Request.i2cRead_target : (Request.i2cRead slave).target = .i2c slave := rfl
@[simp] theorem Request.i2cRead_dir : (Request.i2cRead slave).dir = .read := rfl
@[simp] theorem Request.i2cRead_buf : (Request.i2cRead slave).buf = [] := rfl
@[simp] theorem Request.i2cRead_size : (Request.i2cRead slave).size = 1 := rfl
@[simp] theorem Request.i2cRead_opts :
    (Request.i2cRead slave).opts = { startBit := true, nackLastByte := true } := rfl

end

section
variable (bits : BitVec 9)

@[simp] theorem Request.spiNineBits_target : (Request.spiNineBits bits).target = .spi := rfl
@[simp] theorem Request.spiNineBits_dir : (Request.spiNineBits bits).dir = .write := rfl
@[simp] theorem Request.spiNineBits_buf :
    (Request.spiNineBits bits).buf = [bits.extractLsb' 1 8, bits.extractLsb' 0 1 ++ 0#7] := rfl
@[simp] theorem Request.spiNineBits_size : (Request.spiNineBits bits).size = 9 := rfl
@[simp] theorem Request.spiNineBits_opts :
    (Request.spiNineBits bits).opts = { sizeInBits := true, chipSelectEnable := true, chipSelectDisable := true } := rfl

end

section

@[simp] theorem Request.spiWe_target : (Request.spiWe).target = .spi := rfl
@[simp] theorem Request.spiWe_dir : (Request.spiWe).dir = .write := rfl
@[simp] theorem Request.spiWe_buf : (Request.spiWe).buf = [0x9F, 0x00] := rfl
@[simp] theorem Request.spiWe_size : (Request.spiWe).size = 9 := rfl
@[simp] theorem Request.spiWe_opts :
    (Request.spiWe).opts = { sizeInBits := true, chipSelectEnable := true, chipSelectDisable := true } := rfl

end

section

@[simp] theorem Request.spiWd_target : (Request.spiWd).target = .spi := rfl
@[simp] theorem Request.spiWd_dir : (Request.spiWd).dir = .write := rfl
@[simp] theorem Request.spiWd_buf : (Request.spiWd).buf = [0x87, 0x00] := rfl
@[simp] theorem Request.spiWd_size : (Request.spiWd).size = 9 := rfl
@[simp] theorem Request.spiWd_opts :
    (Request.spiWd).opts = { sizeInBits := true, chipSelectEnable := true, chipSelectDisable := true } := rfl

end

section
variable (a : BitVec 5)

@[simp] theorem Request.spiWrOp_target : (Request.spiWrOp a).target = .spi := rfl
@[simp] theorem Request.spiWrOp_dir : (Request.spiWrOp a).dir = .write := rfl
@[simp] theorem Request.spiWrOp_buf : (Request.spiWrOp a).buf = [0xA0#8 ||| a.setWidth 8] := rfl
@[simp] theorem Request.spiWrOp_size : (Request.spiWrOp a).size = 1 := rfl
@[simp] theorem Request.spiWrOp_opts : (Request.spiWrOp a).opts = { chipSelectEnable := true } := rfl

end

section
variable (b : BitVec 3)

@[simp] theorem Request.spiWrLo_target : (Request.spiWrLo b).target = .spi := rfl
@[simp] theorem Request.spiWrLo_dir : (Request.spiWrLo b).dir = .write := rfl
@[simp] theorem Request.spiWrLo_buf : (Request.spiWrLo b).buf = [b.setWidth 8 <<< 5] := rfl
@[simp] theorem Request.spiWrLo_size : (Request.spiWrLo b).size = 3 := rfl
@[simp] theorem Request.spiWrLo_opts : (Request.spiWrLo b).opts = { sizeInBits := true } := rfl

end

section
variable (lo hi : Byte)

@[simp] theorem Request.spiWrData_target : (Request.spiWrData lo hi).target = .spi := rfl
@[simp] theorem Request.spiWrData_dir : (Request.spiWrData lo hi).dir = .write := rfl
@[simp] theorem Request.spiWrData_buf : (Request.spiWrData lo hi).buf = [lo, hi] := rfl
@[simp] theorem Request.spiWrData_size : (Request.spiWrData lo hi).size = 2 := rfl
@[simp] theorem Request.spiWrData_opts :
    (Request.spiWrData lo hi).opts = { chipSelectDisable := true } := rfl

end

section

@[simp] theorem Request.spiStrobe_target : (Request.spiStrobe).target = .spi := rfl
@[simp] theorem Request.spiStrobe_dir : (Request.spiStrobe).dir = .write := rfl
@[simp] theorem Request.spiStrobe_buf : (Request.spiStrobe).buf = [] := rfl
@[simp] theorem Request.spiStrobe_size : (Request.spiStrobe).size = 0 := rfl
@[simp] theorem Request.spiStrobe_opts : (Request.spiStrobe).opts = { chipSelectEnable := true } := rfl

end

section

@[simp] theorem Request.spiRelease_target : (Request.spiRelease).target = .spi := rfl
@[simp] theorem Request.spiRelease_dir : (Request.spiRelease).dir = .write := rfl
@[simp] theorem Request.spiRelease_buf : (Request.spiRelease).buf = [] := rfl
@[simp] theorem Request.spiRelease_size : (Request.spiRelease).size = 0 := rfl
@[simp] theorem Request.spiRelease_opts : (Request.spiRelease).opts = { chipSelectDisable := true } := rfl

end

section
variable (a : BitVec 5)

@[simp] theorem Request.spiRdOp_target : (Request.spiRdOp a).target = .spi := rfl
@[simp] theorem Request.spiRdOp_dir : (Request.spiRdOp a).dir = .write := rfl
@[simp] theorem Request.spiRdOp_buf : (Request.spiRdOp a).buf = [0xC0#8 ||| a.setWidth 8] := rfl
@[simp] theorem Request.spiRdOp_size : (Request.spiRdOp a).size = 1 := rfl
@[simp] theorem Request.spiRdOp_opts : (Request.spiRdOp a).opts = { chipSelectEnable := true } := rfl

end

section
variable (b : BitVec 3)

@[simp] theorem Request.spiRdLo_target : (Request.spiRdLo b).target = .spi := rfl
@[simp] theorem Request.spiRdLo_dir : (Request.spiRdLo b).dir = .write := rfl
@[simp] theorem Request.spiRdLo_buf : (Request.spiRdLo b).buf = [b.setWidth 8 <<< 5] := rfl
@[simp] theorem Request.spiRdLo_size : (Request.spiRdLo b).size = 4 := rfl
@[simp] theorem Request.spiRdLo_opts : (Request.spiRdLo b).opts = { sizeInBits := true } := rfl

end

section

@[simp] theorem Request.spiRdData_target : (Request.spiRdData).target = .spi := rfl
@[simp] theorem Request.spiRdData_dir : (Request.spiRdData).dir = .read := rfl
@[simp] theorem Request.spiRdData_buf : (Request.spiRdData).buf = [] := rfl
@[simp] theorem Request.spiRdData_size : (Request.spiRdData).size = 2 := rfl
@[simp] theorem Request.spiRdData_opts : (Request.spiRdData).opts = { chipSelectDisable := true } := rfl

end

end Sys2Proof
end

