-- ==== Sys2Proof/Laws/State.lean ====
section
/-! SUPPORT. What each named update of the state does to each field: one lemma per field per update. -/

namespace Sys2Proof.Machine

section
variable (s : State)

@[simp] theorem consumeReply_params : (consumeReply s).params = s.params := rfl
@[simp] theorem consumeReply_argOp : (consumeReply s).argOp = s.argOp := rfl
@[simp] theorem consumeReply_argDev : (consumeReply s).argDev = s.argDev := rfl
@[simp] theorem consumeReply_argLoc : (consumeReply s).argLoc = s.argLoc := rfl
@[simp] theorem consumeReply_argAddr : (consumeReply s).argAddr = s.argAddr := rfl
@[simp] theorem consumeReply_argData : (consumeReply s).argData = s.argData := rfl
@[simp] theorem consumeReply_resStatus : (consumeReply s).resStatus = s.resStatus := rfl
@[simp] theorem consumeReply_resData : (consumeReply s).resData = s.resData := rfl
@[simp] theorem consumeReply_resBusy : (consumeReply s).resBusy = s.resBusy := rfl
@[simp] theorem consumeReply_resRetries : (consumeReply s).resRetries = s.resRetries := rfl
@[simp] theorem consumeReply_resDone : (consumeReply s).resDone = s.resDone := rfl
@[simp] theorem consumeReply_engine : (consumeReply s).engine = s.engine := rfl
@[simp] theorem consumeReply_phase : (consumeReply s).phase = s.phase := rfl
@[simp] theorem consumeReply_polling : (consumeReply s).polling = s.polling := rfl
@[simp] theorem consumeReply_retry : (consumeReply s).retry = s.retry := rfl
@[simp] theorem consumeReply_busyLast : (consumeReply s).busyLast = s.busyLast := rfl
@[simp] theorem consumeReply_fb : (consumeReply s).fb = s.fb := rfl
@[simp] theorem consumeReply_i2cChValid : (consumeReply s).i2cChValid = s.i2cChValid := rfl
@[simp] theorem consumeReply_spiChValid : (consumeReply s).spiChValid = s.spiChValid := rfl
@[simp] theorem consumeReply_i2cLine : (consumeReply s).i2cLine = s.i2cLine := rfl
@[simp] theorem consumeReply_i2cPending : (consumeReply s).i2cPending = s.i2cPending := rfl
@[simp] theorem consumeReply_i2cMem : (consumeReply s).i2cMem = s.i2cMem := rfl
@[simp] theorem consumeReply_spiLine : (consumeReply s).spiLine = s.spiLine := rfl
@[simp] theorem consumeReply_spiPending : (consumeReply s).spiPending = s.spiPending := rfl
@[simp] theorem consumeReply_spiMem : (consumeReply s).spiMem = s.spiMem := rfl
@[simp] theorem consumeReply_spiReadySeen : (consumeReply s).spiReadySeen = s.spiReadySeen := rfl
@[simp] theorem consumeReply_inputs : (consumeReply s).inputs = s.inputs := rfl
@[simp] theorem consumeReply_replies : (consumeReply s).replies = s.replies.tail := rfl
@[simp] theorem consumeReply_draws : (consumeReply s).draws = s.draws + 1 := rfl
@[simp] theorem consumeReply_trace : (consumeReply s).trace = s.trace := rfl

end

section
variable (lead : List Byte) (s : State)

@[simp] theorem loadFB_params : (loadFB lead s).params = s.params := rfl
@[simp] theorem loadFB_argOp : (loadFB lead s).argOp = s.argOp := rfl
@[simp] theorem loadFB_argDev : (loadFB lead s).argDev = s.argDev := rfl
@[simp] theorem loadFB_argLoc : (loadFB lead s).argLoc = s.argLoc := rfl
@[simp] theorem loadFB_argAddr : (loadFB lead s).argAddr = s.argAddr := rfl
@[simp] theorem loadFB_argData : (loadFB lead s).argData = s.argData := rfl
@[simp] theorem loadFB_resStatus : (loadFB lead s).resStatus = s.resStatus := rfl
@[simp] theorem loadFB_resData : (loadFB lead s).resData = s.resData := rfl
@[simp] theorem loadFB_resBusy : (loadFB lead s).resBusy = s.resBusy := rfl
@[simp] theorem loadFB_resRetries : (loadFB lead s).resRetries = s.resRetries := rfl
@[simp] theorem loadFB_resDone : (loadFB lead s).resDone = s.resDone := rfl
@[simp] theorem loadFB_engine : (loadFB lead s).engine = s.engine := rfl
@[simp] theorem loadFB_phase : (loadFB lead s).phase = s.phase := rfl
@[simp] theorem loadFB_polling : (loadFB lead s).polling = s.polling := rfl
@[simp] theorem loadFB_retry : (loadFB lead s).retry = s.retry := rfl
@[simp] theorem loadFB_busyLast : (loadFB lead s).busyLast = s.busyLast := rfl
@[simp] theorem loadFB_fb : (loadFB lead s).fb = overlay lead (List.replicate s.params.fbCap 0) := rfl
@[simp] theorem loadFB_i2cChValid : (loadFB lead s).i2cChValid = s.i2cChValid := rfl
@[simp] theorem loadFB_spiChValid : (loadFB lead s).spiChValid = s.spiChValid := rfl
@[simp] theorem loadFB_i2cLine : (loadFB lead s).i2cLine = s.i2cLine := rfl
@[simp] theorem loadFB_i2cPending : (loadFB lead s).i2cPending = s.i2cPending := rfl
@[simp] theorem loadFB_i2cMem : (loadFB lead s).i2cMem = s.i2cMem := rfl
@[simp] theorem loadFB_spiLine : (loadFB lead s).spiLine = s.spiLine := rfl
@[simp] theorem loadFB_spiPending : (loadFB lead s).spiPending = s.spiPending := rfl
@[simp] theorem loadFB_spiMem : (loadFB lead s).spiMem = s.spiMem := rfl
@[simp] theorem loadFB_spiReadySeen : (loadFB lead s).spiReadySeen = s.spiReadySeen := rfl
@[simp] theorem loadFB_inputs : (loadFB lead s).inputs = s.inputs := rfl
@[simp] theorem loadFB_replies : (loadFB lead s).replies = s.replies := rfl
@[simp] theorem loadFB_draws : (loadFB lead s).draws = s.draws := rfl
@[simp] theorem loadFB_trace : (loadFB lead s).trace = s.trace := rfl

end

section
variable (r : Request) (a : Reply) (s : State)

@[simp] theorem afterI2cCall_params : (afterI2cCall r a s).params = s.params := rfl
@[simp] theorem afterI2cCall_argOp : (afterI2cCall r a s).argOp = s.argOp := rfl
@[simp] theorem afterI2cCall_argDev : (afterI2cCall r a s).argDev = s.argDev := rfl
@[simp] theorem afterI2cCall_argLoc : (afterI2cCall r a s).argLoc = s.argLoc := rfl
@[simp] theorem afterI2cCall_argAddr : (afterI2cCall r a s).argAddr = s.argAddr := rfl
@[simp] theorem afterI2cCall_argData : (afterI2cCall r a s).argData = s.argData := rfl
@[simp] theorem afterI2cCall_resStatus : (afterI2cCall r a s).resStatus = s.resStatus := rfl
@[simp] theorem afterI2cCall_resData : (afterI2cCall r a s).resData = s.resData := rfl
@[simp] theorem afterI2cCall_resBusy : (afterI2cCall r a s).resBusy = s.resBusy := rfl
@[simp] theorem afterI2cCall_resRetries : (afterI2cCall r a s).resRetries = s.resRetries := rfl
@[simp] theorem afterI2cCall_resDone : (afterI2cCall r a s).resDone = s.resDone := rfl
@[simp] theorem afterI2cCall_engine : (afterI2cCall r a s).engine = s.engine := rfl
@[simp] theorem afterI2cCall_phase : (afterI2cCall r a s).phase = s.phase := rfl
@[simp] theorem afterI2cCall_polling : (afterI2cCall r a s).polling = s.polling := rfl
@[simp] theorem afterI2cCall_retry : (afterI2cCall r a s).retry = s.retry := rfl
@[simp] theorem afterI2cCall_busyLast : (afterI2cCall r a s).busyLast = s.busyLast := rfl
@[simp] theorem afterI2cCall_fb : (afterI2cCall r a s).fb = overlay (received r a) s.fb := rfl
@[simp] theorem afterI2cCall_i2cChValid : (afterI2cCall r a s).i2cChValid = s.i2cChValid := rfl
@[simp] theorem afterI2cCall_spiChValid : (afterI2cCall r a s).spiChValid = s.spiChValid := rfl
@[simp] theorem afterI2cCall_i2cLine :
    (afterI2cCall r a s).i2cLine = i2cLineAfter r (replyStatus r a) a s.i2cLine := rfl
@[simp] theorem afterI2cCall_i2cPending : (afterI2cCall r a s).i2cPending = s.i2cPending := rfl
@[simp] theorem afterI2cCall_i2cMem : (afterI2cCall r a s).i2cMem = s.i2cMem := rfl
@[simp] theorem afterI2cCall_spiLine : (afterI2cCall r a s).spiLine = s.spiLine := rfl
@[simp] theorem afterI2cCall_spiPending : (afterI2cCall r a s).spiPending = s.spiPending := rfl
@[simp] theorem afterI2cCall_spiMem : (afterI2cCall r a s).spiMem = s.spiMem := rfl
@[simp] theorem afterI2cCall_spiReadySeen : (afterI2cCall r a s).spiReadySeen = s.spiReadySeen := rfl
@[simp] theorem afterI2cCall_inputs : (afterI2cCall r a s).inputs = s.inputs := rfl
@[simp] theorem afterI2cCall_replies : (afterI2cCall r a s).replies = s.replies.tail := rfl
@[simp] theorem afterI2cCall_draws : (afterI2cCall r a s).draws = s.draws + 1 := rfl
@[simp] theorem afterI2cCall_trace : (afterI2cCall r a s).trace = s.trace ++ [recordOf r a] := rfl

end

section
variable (r : Request) (a : Reply) (s : State)

@[simp] theorem afterSpiCall_params : (afterSpiCall r a s).params = s.params := rfl
@[simp] theorem afterSpiCall_argOp : (afterSpiCall r a s).argOp = s.argOp := rfl
@[simp] theorem afterSpiCall_argDev : (afterSpiCall r a s).argDev = s.argDev := rfl
@[simp] theorem afterSpiCall_argLoc : (afterSpiCall r a s).argLoc = s.argLoc := rfl
@[simp] theorem afterSpiCall_argAddr : (afterSpiCall r a s).argAddr = s.argAddr := rfl
@[simp] theorem afterSpiCall_argData : (afterSpiCall r a s).argData = s.argData := rfl
@[simp] theorem afterSpiCall_resStatus : (afterSpiCall r a s).resStatus = s.resStatus := rfl
@[simp] theorem afterSpiCall_resData : (afterSpiCall r a s).resData = s.resData := rfl
@[simp] theorem afterSpiCall_resBusy : (afterSpiCall r a s).resBusy = s.resBusy := rfl
@[simp] theorem afterSpiCall_resRetries : (afterSpiCall r a s).resRetries = s.resRetries := rfl
@[simp] theorem afterSpiCall_resDone : (afterSpiCall r a s).resDone = s.resDone := rfl
@[simp] theorem afterSpiCall_engine : (afterSpiCall r a s).engine = s.engine := rfl
@[simp] theorem afterSpiCall_phase : (afterSpiCall r a s).phase = s.phase := rfl
@[simp] theorem afterSpiCall_polling : (afterSpiCall r a s).polling = s.polling := rfl
@[simp] theorem afterSpiCall_retry : (afterSpiCall r a s).retry = s.retry := rfl
@[simp] theorem afterSpiCall_busyLast : (afterSpiCall r a s).busyLast = s.busyLast := rfl
@[simp] theorem afterSpiCall_fb : (afterSpiCall r a s).fb = overlay (received r a) s.fb := rfl
@[simp] theorem afterSpiCall_i2cChValid : (afterSpiCall r a s).i2cChValid = s.i2cChValid := rfl
@[simp] theorem afterSpiCall_spiChValid : (afterSpiCall r a s).spiChValid = s.spiChValid := rfl
@[simp] theorem afterSpiCall_i2cLine : (afterSpiCall r a s).i2cLine = s.i2cLine := rfl
@[simp] theorem afterSpiCall_i2cPending : (afterSpiCall r a s).i2cPending = s.i2cPending := rfl
@[simp] theorem afterSpiCall_i2cMem : (afterSpiCall r a s).i2cMem = s.i2cMem := rfl
@[simp] theorem afterSpiCall_spiLine :
    (afterSpiCall r a s).spiLine = spiLineAfter r (replyStatus r a) a (settleSpi s).spiLine := rfl
@[simp] theorem afterSpiCall_spiPending :
    (afterSpiCall r a s).spiPending = spiPendingAfter r a (settleSpi s) := rfl
@[simp] theorem afterSpiCall_spiMem : (afterSpiCall r a s).spiMem = spiMemAfter r (settleSpi s) := rfl
@[simp] theorem afterSpiCall_spiReadySeen : (afterSpiCall r a s).spiReadySeen = false := rfl
@[simp] theorem afterSpiCall_inputs : (afterSpiCall r a s).inputs = s.inputs := rfl
@[simp] theorem afterSpiCall_replies : (afterSpiCall r a s).replies = s.replies.tail := rfl
@[simp] theorem afterSpiCall_draws : (afterSpiCall r a s).draws = s.draws + 1 := rfl
@[simp] theorem afterSpiCall_trace : (afterSpiCall r a s).trace = s.trace ++ [recordOf r a] := rfl

end

section
variable (op : BitVec 2) (dev : BitVec 7) (loc : BitVec 11) (addr : BitVec 8) (data : DataWord) (s : State)

@[simp] theorem accept_params : (accept op dev loc addr data s).params = s.params := rfl
@[simp] theorem accept_argOp : (accept op dev loc addr data s).argOp = op := rfl
@[simp] theorem accept_argDev : (accept op dev loc addr data s).argDev = dev := rfl
@[simp] theorem accept_argLoc : (accept op dev loc addr data s).argLoc = loc := rfl
@[simp] theorem accept_argAddr : (accept op dev loc addr data s).argAddr = addr := rfl
@[simp] theorem accept_argData : (accept op dev loc addr data s).argData = data := rfl
@[simp] theorem accept_resStatus : (accept op dev loc addr data s).resStatus = s.resStatus := rfl
@[simp] theorem accept_resData : (accept op dev loc addr data s).resData = s.resData := rfl
@[simp] theorem accept_resBusy : (accept op dev loc addr data s).resBusy = s.resBusy := rfl
@[simp] theorem accept_resRetries : (accept op dev loc addr data s).resRetries = s.resRetries := rfl
@[simp] theorem accept_resDone : (accept op dev loc addr data s).resDone = false := rfl
@[simp] theorem accept_engine : (accept op dev loc addr data s).engine = .running := rfl
@[simp] theorem accept_phase : (accept op dev loc addr data s).phase = 0 := rfl
@[simp] theorem accept_polling : (accept op dev loc addr data s).polling = false := rfl
@[simp] theorem accept_retry : (accept op dev loc addr data s).retry = 0 := rfl
@[simp] theorem accept_busyLast : (accept op dev loc addr data s).busyLast = false := rfl
@[simp] theorem accept_fb : (accept op dev loc addr data s).fb = s.fb := rfl
@[simp] theorem accept_i2cChValid : (accept op dev loc addr data s).i2cChValid = s.i2cChValid := rfl
@[simp] theorem accept_spiChValid : (accept op dev loc addr data s).spiChValid = s.spiChValid := rfl
@[simp] theorem accept_i2cLine : (accept op dev loc addr data s).i2cLine = s.i2cLine := rfl
@[simp] theorem accept_i2cPending : (accept op dev loc addr data s).i2cPending = s.i2cPending := rfl
@[simp] theorem accept_i2cMem : (accept op dev loc addr data s).i2cMem = s.i2cMem := rfl
@[simp] theorem accept_spiLine : (accept op dev loc addr data s).spiLine = s.spiLine := rfl
@[simp] theorem accept_spiPending : (accept op dev loc addr data s).spiPending = s.spiPending := rfl
@[simp] theorem accept_spiMem : (accept op dev loc addr data s).spiMem = s.spiMem := rfl
@[simp] theorem accept_spiReadySeen : (accept op dev loc addr data s).spiReadySeen = s.spiReadySeen := rfl
@[simp] theorem accept_inputs : (accept op dev loc addr data s).inputs = s.inputs := rfl
@[simp] theorem accept_replies : (accept op dev loc addr data s).replies = s.replies := rfl
@[simp] theorem accept_draws : (accept op dev loc addr data s).draws = s.draws := rfl
@[simp] theorem accept_trace : (accept op dev loc addr data s).trace = s.trace := rfl

end

section
variable (st : Status) (data : DataWord) (busy : Bool) (n : BitVec 8) (s : State)

@[simp] theorem finish_params : (finish st data busy n s).params = s.params := rfl
@[simp] theorem finish_argOp : (finish st data busy n s).argOp = s.argOp := rfl
@[simp] theorem finish_argDev : (finish st data busy n s).argDev = s.argDev := rfl
@[simp] theorem finish_argLoc : (finish st data busy n s).argLoc = s.argLoc := rfl
@[simp] theorem finish_argAddr : (finish st data busy n s).argAddr = s.argAddr := rfl
@[simp] theorem finish_argData : (finish st data busy n s).argData = s.argData := rfl
@[simp] theorem finish_resStatus : (finish st data busy n s).resStatus = st.code := rfl
@[simp] theorem finish_resData : (finish st data busy n s).resData = data := rfl
@[simp] theorem finish_resBusy : (finish st data busy n s).resBusy = busy := rfl
@[simp] theorem finish_resRetries : (finish st data busy n s).resRetries = n := rfl
@[simp] theorem finish_resDone : (finish st data busy n s).resDone = true := rfl
@[simp] theorem finish_engine : (finish st data busy n s).engine = .idle := rfl
@[simp] theorem finish_phase : (finish st data busy n s).phase = s.phase := rfl
@[simp] theorem finish_polling : (finish st data busy n s).polling = false := rfl
@[simp] theorem finish_retry : (finish st data busy n s).retry = s.retry := rfl
@[simp] theorem finish_busyLast : (finish st data busy n s).busyLast = s.busyLast := rfl
@[simp] theorem finish_fb : (finish st data busy n s).fb = s.fb := rfl
@[simp] theorem finish_i2cChValid : (finish st data busy n s).i2cChValid = s.i2cChValid := rfl
@[simp] theorem finish_spiChValid : (finish st data busy n s).spiChValid = s.spiChValid := rfl
@[simp] theorem finish_i2cLine : (finish st data busy n s).i2cLine = s.i2cLine := rfl
@[simp] theorem finish_i2cPending : (finish st data busy n s).i2cPending = s.i2cPending := rfl
@[simp] theorem finish_i2cMem : (finish st data busy n s).i2cMem = s.i2cMem := rfl
@[simp] theorem finish_spiLine : (finish st data busy n s).spiLine = s.spiLine := rfl
@[simp] theorem finish_spiPending : (finish st data busy n s).spiPending = s.spiPending := rfl
@[simp] theorem finish_spiMem : (finish st data busy n s).spiMem = s.spiMem := rfl
@[simp] theorem finish_spiReadySeen : (finish st data busy n s).spiReadySeen = s.spiReadySeen := rfl
@[simp] theorem finish_inputs : (finish st data busy n s).inputs = s.inputs := rfl
@[simp] theorem finish_replies : (finish st data busy n s).replies = s.replies := rfl
@[simp] theorem finish_draws : (finish st data busy n s).draws = s.draws := rfl
@[simp] theorem finish_trace : (finish st data busy n s).trace = s.trace := rfl

end

section
variable (s : State)

@[simp] theorem illegalCommand_params : (illegalCommand s).params = s.params := rfl
@[simp] theorem illegalCommand_argOp : (illegalCommand s).argOp = s.argOp := rfl
@[simp] theorem illegalCommand_argDev : (illegalCommand s).argDev = s.argDev := rfl
@[simp] theorem illegalCommand_argLoc : (illegalCommand s).argLoc = s.argLoc := rfl
@[simp] theorem illegalCommand_argAddr : (illegalCommand s).argAddr = s.argAddr := rfl
@[simp] theorem illegalCommand_argData : (illegalCommand s).argData = s.argData := rfl
@[simp] theorem illegalCommand_resStatus :
    (illegalCommand s).resStatus = Status.invalidParameter.code := rfl
@[simp] theorem illegalCommand_resData : (illegalCommand s).resData = 0 := rfl
@[simp] theorem illegalCommand_resBusy : (illegalCommand s).resBusy = false := rfl
@[simp] theorem illegalCommand_resRetries : (illegalCommand s).resRetries = 0 := rfl
@[simp] theorem illegalCommand_resDone : (illegalCommand s).resDone = true := rfl
@[simp] theorem illegalCommand_engine : (illegalCommand s).engine = s.engine := rfl
@[simp] theorem illegalCommand_phase : (illegalCommand s).phase = s.phase := rfl
@[simp] theorem illegalCommand_polling : (illegalCommand s).polling = s.polling := rfl
@[simp] theorem illegalCommand_retry : (illegalCommand s).retry = s.retry := rfl
@[simp] theorem illegalCommand_busyLast : (illegalCommand s).busyLast = s.busyLast := rfl
@[simp] theorem illegalCommand_fb : (illegalCommand s).fb = s.fb := rfl
@[simp] theorem illegalCommand_i2cChValid : (illegalCommand s).i2cChValid = s.i2cChValid := rfl
@[simp] theorem illegalCommand_spiChValid : (illegalCommand s).spiChValid = s.spiChValid := rfl
@[simp] theorem illegalCommand_i2cLine : (illegalCommand s).i2cLine = s.i2cLine := rfl
@[simp] theorem illegalCommand_i2cPending : (illegalCommand s).i2cPending = s.i2cPending := rfl
@[simp] theorem illegalCommand_i2cMem : (illegalCommand s).i2cMem = s.i2cMem := rfl
@[simp] theorem illegalCommand_spiLine : (illegalCommand s).spiLine = s.spiLine := rfl
@[simp] theorem illegalCommand_spiPending : (illegalCommand s).spiPending = s.spiPending := rfl
@[simp] theorem illegalCommand_spiMem : (illegalCommand s).spiMem = s.spiMem := rfl
@[simp] theorem illegalCommand_spiReadySeen : (illegalCommand s).spiReadySeen = s.spiReadySeen := rfl
@[simp] theorem illegalCommand_inputs : (illegalCommand s).inputs = s.inputs := rfl
@[simp] theorem illegalCommand_replies : (illegalCommand s).replies = s.replies := rfl
@[simp] theorem illegalCommand_draws : (illegalCommand s).draws = s.draws := rfl
@[simp] theorem illegalCommand_trace : (illegalCommand s).trace = s.trace := rfl

end

section
variable (slave : BitVec 7) (reg data : Byte) (e : Status) (a : Reply) (s : State)

@[simp] theorem latchI2c_params : (latchI2c slave reg data e a s).params = s.params := rfl
@[simp] theorem latchI2c_argOp : (latchI2c slave reg data e a s).argOp = s.argOp := rfl
@[simp] theorem latchI2c_argDev : (latchI2c slave reg data e a s).argDev = s.argDev := rfl
@[simp] theorem latchI2c_argLoc : (latchI2c slave reg data e a s).argLoc = s.argLoc := rfl
@[simp] theorem latchI2c_argAddr : (latchI2c slave reg data e a s).argAddr = s.argAddr := rfl
@[simp] theorem latchI2c_argData : (latchI2c slave reg data e a s).argData = s.argData := rfl
@[simp] theorem latchI2c_resStatus : (latchI2c slave reg data e a s).resStatus = s.resStatus := rfl
@[simp] theorem latchI2c_resData : (latchI2c slave reg data e a s).resData = s.resData := rfl
@[simp] theorem latchI2c_resBusy : (latchI2c slave reg data e a s).resBusy = s.resBusy := rfl
@[simp] theorem latchI2c_resRetries : (latchI2c slave reg data e a s).resRetries = s.resRetries := rfl
@[simp] theorem latchI2c_resDone : (latchI2c slave reg data e a s).resDone = s.resDone := rfl
@[simp] theorem latchI2c_engine : (latchI2c slave reg data e a s).engine = s.engine := rfl
@[simp] theorem latchI2c_phase : (latchI2c slave reg data e a s).phase = s.phase := rfl
@[simp] theorem latchI2c_polling : (latchI2c slave reg data e a s).polling = s.polling := rfl
@[simp] theorem latchI2c_retry : (latchI2c slave reg data e a s).retry = s.retry := rfl
@[simp] theorem latchI2c_busyLast : (latchI2c slave reg data e a s).busyLast = s.busyLast := rfl
@[simp] theorem latchI2c_fb : (latchI2c slave reg data e a s).fb = s.fb := rfl
@[simp] theorem latchI2c_i2cChValid : (latchI2c slave reg data e a s).i2cChValid = s.i2cChValid := rfl
@[simp] theorem latchI2c_spiChValid : (latchI2c slave reg data e a s).spiChValid = s.spiChValid := rfl
@[simp] theorem latchI2c_i2cLine :
    (latchI2c slave reg data e a s).i2cLine =
      if e = .ok then { s.i2cLine with cycle := locationInRange s || a.i2cAfter.cycle } else s.i2cLine := rfl
@[simp] theorem latchI2c_i2cPending :
    (latchI2c slave reg data e a s).i2cPending =
      if e = .ok ∧ locationInRange s then some (i2cCell slave reg, data) else none := rfl
@[simp] theorem latchI2c_i2cMem :
    (latchI2c slave reg data e a s).i2cMem =
      if locationInRange s then writeCell s.i2cMem (i2cCell slave reg) (Config.freeCell s.draws)
      else [] := rfl
@[simp] theorem latchI2c_spiLine : (latchI2c slave reg data e a s).spiLine = s.spiLine := rfl
@[simp] theorem latchI2c_spiPending : (latchI2c slave reg data e a s).spiPending = s.spiPending := rfl
@[simp] theorem latchI2c_spiMem : (latchI2c slave reg data e a s).spiMem = s.spiMem := rfl
@[simp] theorem latchI2c_spiReadySeen : (latchI2c slave reg data e a s).spiReadySeen = s.spiReadySeen := rfl
@[simp] theorem latchI2c_inputs : (latchI2c slave reg data e a s).inputs = s.inputs := rfl
@[simp] theorem latchI2c_replies : (latchI2c slave reg data e a s).replies = s.replies := rfl
@[simp] theorem latchI2c_draws : (latchI2c slave reg data e a s).draws = s.draws := rfl
@[simp] theorem latchI2c_trace : (latchI2c slave reg data e a s).trace = s.trace := rfl

end

section
variable (s : State)

@[simp] theorem confirmI2c_params : (confirmI2c s).params = s.params := rfl
@[simp] theorem confirmI2c_argOp : (confirmI2c s).argOp = s.argOp := rfl
@[simp] theorem confirmI2c_argDev : (confirmI2c s).argDev = s.argDev := rfl
@[simp] theorem confirmI2c_argLoc : (confirmI2c s).argLoc = s.argLoc := rfl
@[simp] theorem confirmI2c_argAddr : (confirmI2c s).argAddr = s.argAddr := rfl
@[simp] theorem confirmI2c_argData : (confirmI2c s).argData = s.argData := rfl
@[simp] theorem confirmI2c_resStatus : (confirmI2c s).resStatus = s.resStatus := rfl
@[simp] theorem confirmI2c_resData : (confirmI2c s).resData = s.resData := rfl
@[simp] theorem confirmI2c_resBusy : (confirmI2c s).resBusy = s.resBusy := rfl
@[simp] theorem confirmI2c_resRetries : (confirmI2c s).resRetries = s.resRetries := rfl
@[simp] theorem confirmI2c_resDone : (confirmI2c s).resDone = s.resDone := rfl
@[simp] theorem confirmI2c_engine : (confirmI2c s).engine = s.engine := rfl
@[simp] theorem confirmI2c_phase : (confirmI2c s).phase = s.phase := rfl
@[simp] theorem confirmI2c_polling : (confirmI2c s).polling = s.polling := rfl
@[simp] theorem confirmI2c_retry : (confirmI2c s).retry = s.retry := rfl
@[simp] theorem confirmI2c_busyLast : (confirmI2c s).busyLast = s.busyLast := rfl
@[simp] theorem confirmI2c_fb : (confirmI2c s).fb = s.fb := rfl
@[simp] theorem confirmI2c_i2cChValid : (confirmI2c s).i2cChValid = s.i2cChValid := rfl
@[simp] theorem confirmI2c_spiChValid : (confirmI2c s).spiChValid = s.spiChValid := rfl
@[simp] theorem confirmI2c_i2cLine : (confirmI2c s).i2cLine = { s.i2cLine with cycle := false } := rfl
@[simp] theorem confirmI2c_i2cPending : (confirmI2c s).i2cPending = none := rfl
@[simp] theorem confirmI2c_spiLine : (confirmI2c s).spiLine = s.spiLine := rfl
@[simp] theorem confirmI2c_spiPending : (confirmI2c s).spiPending = s.spiPending := rfl
@[simp] theorem confirmI2c_spiMem : (confirmI2c s).spiMem = s.spiMem := rfl
@[simp] theorem confirmI2c_spiReadySeen : (confirmI2c s).spiReadySeen = s.spiReadySeen := rfl
@[simp] theorem confirmI2c_inputs : (confirmI2c s).inputs = s.inputs := rfl
@[simp] theorem confirmI2c_replies : (confirmI2c s).replies = s.replies := rfl
@[simp] theorem confirmI2c_draws : (confirmI2c s).draws = s.draws := rfl
@[simp] theorem confirmI2c_trace : (confirmI2c s).trace = s.trace := rfl

end

section
variable (s : State)

@[simp] theorem settleSpi_params : (settleSpi s).params = s.params := rfl
@[simp] theorem settleSpi_argOp : (settleSpi s).argOp = s.argOp := rfl
@[simp] theorem settleSpi_argDev : (settleSpi s).argDev = s.argDev := rfl
@[simp] theorem settleSpi_argLoc : (settleSpi s).argLoc = s.argLoc := rfl
@[simp] theorem settleSpi_argAddr : (settleSpi s).argAddr = s.argAddr := rfl
@[simp] theorem settleSpi_argData : (settleSpi s).argData = s.argData := rfl
@[simp] theorem settleSpi_resStatus : (settleSpi s).resStatus = s.resStatus := rfl
@[simp] theorem settleSpi_resData : (settleSpi s).resData = s.resData := rfl
@[simp] theorem settleSpi_resBusy : (settleSpi s).resBusy = s.resBusy := rfl
@[simp] theorem settleSpi_resRetries : (settleSpi s).resRetries = s.resRetries := rfl
@[simp] theorem settleSpi_resDone : (settleSpi s).resDone = s.resDone := rfl
@[simp] theorem settleSpi_engine : (settleSpi s).engine = s.engine := rfl
@[simp] theorem settleSpi_phase : (settleSpi s).phase = s.phase := rfl
@[simp] theorem settleSpi_polling : (settleSpi s).polling = s.polling := rfl
@[simp] theorem settleSpi_retry : (settleSpi s).retry = s.retry := rfl
@[simp] theorem settleSpi_busyLast : (settleSpi s).busyLast = s.busyLast := rfl
@[simp] theorem settleSpi_fb : (settleSpi s).fb = s.fb := rfl
@[simp] theorem settleSpi_i2cChValid : (settleSpi s).i2cChValid = s.i2cChValid := rfl
@[simp] theorem settleSpi_spiChValid : (settleSpi s).spiChValid = s.spiChValid := rfl
@[simp] theorem settleSpi_i2cLine : (settleSpi s).i2cLine = s.i2cLine := rfl
@[simp] theorem settleSpi_i2cPending : (settleSpi s).i2cPending = s.i2cPending := rfl
@[simp] theorem settleSpi_i2cMem : (settleSpi s).i2cMem = s.i2cMem := rfl
@[simp] theorem settleSpi_spiLine :
    (settleSpi s).spiLine = { s.spiLine with cycle := s.spiLine.cycle && !s.spiReadySeen } := rfl
@[simp] theorem settleSpi_spiPending :
    (settleSpi s).spiPending = if s.spiReadySeen then none else s.spiPending := rfl
@[simp] theorem settleSpi_spiReadySeen : (settleSpi s).spiReadySeen = false := rfl
@[simp] theorem settleSpi_inputs : (settleSpi s).inputs = s.inputs := rfl
@[simp] theorem settleSpi_replies : (settleSpi s).replies = s.replies := rfl
@[simp] theorem settleSpi_draws : (settleSpi s).draws = s.draws := rfl
@[simp] theorem settleSpi_trace : (settleSpi s).trace = s.trace := rfl

end

section
variable (busy : Bool) (s : State)

@[simp] theorem noteReady_params : (noteReady busy s).params = s.params := rfl
@[simp] theorem noteReady_argOp : (noteReady busy s).argOp = s.argOp := rfl
@[simp] theorem noteReady_argDev : (noteReady busy s).argDev = s.argDev := rfl
@[simp] theorem noteReady_argLoc : (noteReady busy s).argLoc = s.argLoc := rfl
@[simp] theorem noteReady_argAddr : (noteReady busy s).argAddr = s.argAddr := rfl
@[simp] theorem noteReady_argData : (noteReady busy s).argData = s.argData := rfl
@[simp] theorem noteReady_resStatus : (noteReady busy s).resStatus = s.resStatus := rfl
@[simp] theorem noteReady_resData : (noteReady busy s).resData = s.resData := rfl
@[simp] theorem noteReady_resBusy : (noteReady busy s).resBusy = s.resBusy := rfl
@[simp] theorem noteReady_resRetries : (noteReady busy s).resRetries = s.resRetries := rfl
@[simp] theorem noteReady_resDone : (noteReady busy s).resDone = s.resDone := rfl
@[simp] theorem noteReady_engine : (noteReady busy s).engine = s.engine := rfl
@[simp] theorem noteReady_phase : (noteReady busy s).phase = s.phase := rfl
@[simp] theorem noteReady_polling : (noteReady busy s).polling = s.polling := rfl
@[simp] theorem noteReady_retry : (noteReady busy s).retry = s.retry := rfl
@[simp] theorem noteReady_busyLast : (noteReady busy s).busyLast = s.busyLast := rfl
@[simp] theorem noteReady_fb : (noteReady busy s).fb = s.fb := rfl
@[simp] theorem noteReady_i2cChValid : (noteReady busy s).i2cChValid = s.i2cChValid := rfl
@[simp] theorem noteReady_spiChValid : (noteReady busy s).spiChValid = s.spiChValid := rfl
@[simp] theorem noteReady_i2cLine : (noteReady busy s).i2cLine = s.i2cLine := rfl
@[simp] theorem noteReady_i2cPending : (noteReady busy s).i2cPending = s.i2cPending := rfl
@[simp] theorem noteReady_i2cMem : (noteReady busy s).i2cMem = s.i2cMem := rfl
@[simp] theorem noteReady_spiLine : (noteReady busy s).spiLine = s.spiLine := rfl
@[simp] theorem noteReady_spiPending : (noteReady busy s).spiPending = s.spiPending := rfl
@[simp] theorem noteReady_spiMem : (noteReady busy s).spiMem = s.spiMem := rfl
@[simp] theorem noteReady_spiReadySeen :
    (noteReady busy s).spiReadySeen = (s.spiReadySeen || (s.spiLine.cs && !busy)) := rfl
@[simp] theorem noteReady_inputs : (noteReady busy s).inputs = s.inputs := rfl
@[simp] theorem noteReady_replies : (noteReady busy s).replies = s.replies := rfl
@[simp] theorem noteReady_draws : (noteReady busy s).draws = s.draws := rfl
@[simp] theorem noteReady_trace : (noteReady busy s).trace = s.trace := rfl

end

section
variable (a : Reply) (s : State)

@[simp] theorem afterIsBusy_params : (afterIsBusy a s).params = s.params := rfl
@[simp] theorem afterIsBusy_argOp : (afterIsBusy a s).argOp = s.argOp := rfl
@[simp] theorem afterIsBusy_argDev : (afterIsBusy a s).argDev = s.argDev := rfl
@[simp] theorem afterIsBusy_argLoc : (afterIsBusy a s).argLoc = s.argLoc := rfl
@[simp] theorem afterIsBusy_argAddr : (afterIsBusy a s).argAddr = s.argAddr := rfl
@[simp] theorem afterIsBusy_argData : (afterIsBusy a s).argData = s.argData := rfl
@[simp] theorem afterIsBusy_resStatus : (afterIsBusy a s).resStatus = s.resStatus := rfl
@[simp] theorem afterIsBusy_resData : (afterIsBusy a s).resData = s.resData := rfl
@[simp] theorem afterIsBusy_resBusy : (afterIsBusy a s).resBusy = s.resBusy := rfl
@[simp] theorem afterIsBusy_resRetries : (afterIsBusy a s).resRetries = s.resRetries := rfl
@[simp] theorem afterIsBusy_resDone : (afterIsBusy a s).resDone = s.resDone := rfl
@[simp] theorem afterIsBusy_engine : (afterIsBusy a s).engine = s.engine := rfl
@[simp] theorem afterIsBusy_phase : (afterIsBusy a s).phase = s.phase := rfl
@[simp] theorem afterIsBusy_polling : (afterIsBusy a s).polling = s.polling := rfl
@[simp] theorem afterIsBusy_retry : (afterIsBusy a s).retry = s.retry + 1 := rfl
@[simp] theorem afterIsBusy_busyLast : (afterIsBusy a s).busyLast = s.busyLast := rfl
@[simp] theorem afterIsBusy_fb : (afterIsBusy a s).fb = s.fb := rfl
@[simp] theorem afterIsBusy_i2cChValid : (afterIsBusy a s).i2cChValid = s.i2cChValid := rfl
@[simp] theorem afterIsBusy_spiChValid : (afterIsBusy a s).spiChValid = s.spiChValid := rfl
@[simp] theorem afterIsBusy_i2cLine : (afterIsBusy a s).i2cLine = s.i2cLine := rfl
@[simp] theorem afterIsBusy_i2cPending : (afterIsBusy a s).i2cPending = s.i2cPending := rfl
@[simp] theorem afterIsBusy_i2cMem : (afterIsBusy a s).i2cMem = s.i2cMem := rfl
@[simp] theorem afterIsBusy_spiLine : (afterIsBusy a s).spiLine = s.spiLine := rfl
@[simp] theorem afterIsBusy_spiPending : (afterIsBusy a s).spiPending = s.spiPending := rfl
@[simp] theorem afterIsBusy_spiMem : (afterIsBusy a s).spiMem = s.spiMem := rfl
@[simp] theorem afterIsBusy_spiReadySeen : (afterIsBusy a s).spiReadySeen = s.spiReadySeen := rfl
@[simp] theorem afterIsBusy_inputs : (afterIsBusy a s).inputs = s.inputs := rfl
@[simp] theorem afterIsBusy_replies : (afterIsBusy a s).replies = s.replies.tail := rfl
@[simp] theorem afterIsBusy_draws : (afterIsBusy a s).draws = s.draws + 1 := rfl
@[simp] theorem afterIsBusy_trace :
    (afterIsBusy a s).trace = s.trace ++ [.isBusy (Status.ofCode a.code) a.busy] := rfl

end

section
variable (k : BitVec 4) (r : Request) (s : State)

@[simp] theorem phaseCalled_params : (phaseCalled k r s).params = s.params := rfl
@[simp] theorem phaseCalled_argOp : (phaseCalled k r s).argOp = s.argOp := rfl
@[simp] theorem phaseCalled_argDev : (phaseCalled k r s).argDev = s.argDev := rfl
@[simp] theorem phaseCalled_argLoc : (phaseCalled k r s).argLoc = s.argLoc := rfl
@[simp] theorem phaseCalled_argAddr : (phaseCalled k r s).argAddr = s.argAddr := rfl
@[simp] theorem phaseCalled_argData : (phaseCalled k r s).argData = s.argData := rfl
@[simp] theorem phaseCalled_resStatus : (phaseCalled k r s).resStatus = s.resStatus := rfl
@[simp] theorem phaseCalled_resData : (phaseCalled k r s).resData = s.resData := rfl
@[simp] theorem phaseCalled_resBusy : (phaseCalled k r s).resBusy = s.resBusy := rfl
@[simp] theorem phaseCalled_resRetries : (phaseCalled k r s).resRetries = s.resRetries := rfl
@[simp] theorem phaseCalled_resDone : (phaseCalled k r s).resDone = s.resDone := rfl
@[simp] theorem phaseCalled_engine : (phaseCalled k r s).engine = s.engine := rfl
@[simp] theorem phaseCalled_phase : (phaseCalled k r s).phase = k := rfl
@[simp] theorem phaseCalled_polling : (phaseCalled k r s).polling = s.polling := rfl
@[simp] theorem phaseCalled_retry : (phaseCalled k r s).retry = s.retry := rfl
@[simp] theorem phaseCalled_busyLast : (phaseCalled k r s).busyLast = s.busyLast := rfl
@[simp] theorem phaseCalled_i2cChValid : (phaseCalled k r s).i2cChValid = s.i2cChValid := rfl
@[simp] theorem phaseCalled_spiChValid : (phaseCalled k r s).spiChValid = s.spiChValid := rfl
@[simp] theorem phaseCalled_i2cLine : (phaseCalled k r s).i2cLine = s.i2cLine := rfl
@[simp] theorem phaseCalled_i2cPending : (phaseCalled k r s).i2cPending = s.i2cPending := rfl
@[simp] theorem phaseCalled_i2cMem : (phaseCalled k r s).i2cMem = s.i2cMem := rfl
@[simp] theorem phaseCalled_spiLine : (phaseCalled k r s).spiLine = s.spiLine := rfl
@[simp] theorem phaseCalled_spiPending : (phaseCalled k r s).spiPending = s.spiPending := rfl
@[simp] theorem phaseCalled_spiMem : (phaseCalled k r s).spiMem = s.spiMem := rfl
@[simp] theorem phaseCalled_spiReadySeen : (phaseCalled k r s).spiReadySeen = s.spiReadySeen := rfl
@[simp] theorem phaseCalled_inputs : (phaseCalled k r s).inputs = s.inputs := rfl
@[simp] theorem phaseCalled_replies : (phaseCalled k r s).replies = s.replies.tail := rfl
@[simp] theorem phaseCalled_draws : (phaseCalled k r s).draws = s.draws + 1 := rfl
@[simp] theorem phaseCalled_trace : (phaseCalled k r s).trace = s.trace ++ [recordOf r (nextReply s)] := rfl

end

end Sys2Proof.Machine
end

