-- ==== Sys2Proof/Laws/Ops.lean ====
section
/-! SUPPORT. One lemma for each shared operation: everything it can do. -/

namespace Sys2Proof.Machine

/-! ## The frame buffer -/

@[simp] theorem overlay_nil (buf : List Byte) : overlay [] buf = buf := by simp [overlay]

/-- Overlaying keeps the buffer's length. -/
@[simp] theorem length_overlay (lead buf : List Byte) : (overlay lead buf).length = buf.length := by
  simp only [overlay, List.length_append, List.length_take, List.length_drop]
  omega

/-- Over a buffer of zeros: the bytes, then zeros. -/
theorem overlay_zeros (lead : List Byte) (cap : Nat) (h : lead.length ≤ cap) :
    overlay lead (List.replicate cap 0) = lead ++ List.replicate (cap - lead.length) 0 := by
  simp only [overlay, List.length_replicate, List.drop_replicate]
  rw [List.take_of_length_le h]

/-! ## Channel calls -/

/-- A successful effective status is `OK` with the full size. -/
theorem eff_ok (st : Status) (moved size : Nat) : eff st moved size = .ok ↔ st = .ok ∧ moved = size := by
  unfold eff
  split
  · split <;> simp_all
  · rename_i h
    simp [h]

theorem replyStatus_ok (r : Request) (a : Reply) :
    replyStatus r a = .ok ↔ Status.ofCode a.code = .ok ∧ a.moved = r.size :=
  eff_ok _ _ _

/-- The oracle's next answer is the script's next, or a free draw. -/
theorem nextReply_cons (s : State) (a : Reply) (rest : List Reply) (h : s.replies = a :: rest) :
    nextReply s = a := by
  simp [nextReply, h]

theorem nextReply_congr (s t : State) (h : s.replies = t.replies) (h' : s.draws = t.draws) :
    nextReply s = nextReply t := by
  simp [nextReply, h, h']

/-- A transfer hangs, or answers with the effective status of its answer. -/
theorem xfer_cases (r : Request) (s : State) :
    ((nextReply s).returns = false ∧ xfer r s = .stuck) ∨
    ((nextReply s).returns = true ∧
      xfer r s = .answered (replyStatus r (nextReply s)) (afterCall r (nextReply s) s)) := by
  unfold xfer
  cases h : (nextReply s).returns <;> simp

theorem xfer_returns (r : Request) (s : State) (h : (nextReply s).returns = true) :
    xfer r s = .answered (replyStatus r (nextReply s)) (afterCall r (nextReply s) s) := by
  simp [xfer, h]

/-- The state a phase's call is made in. -/
def phaseStart (k : BitVec 4) (r : Request) (s : State) : State :=
  { loadFB r.buf s with phase := k }

theorem callPhase_eq (k : BitVec 4) (r : Request) (s : State) :
    callPhase k r s = xfer r (phaseStart k r s) := rfl

@[simp] theorem nextReply_phaseStart (k : BitVec 4) (r : Request) (s : State) :
    nextReply (phaseStart k r s) = nextReply s := rfl

/-- A phase's call hangs, or answers with the effective status of its answer. -/
theorem callPhase_cases (k : BitVec 4) (r : Request) (s : State) :
    ((nextReply s).returns = false ∧ callPhase k r s = .stuck) ∨
    ((nextReply s).returns = true ∧
      callPhase k r s =
        .answered (replyStatus r (nextReply s)) (afterCall r (nextReply s) (phaseStart k r s))) :=
  xfer_cases r (phaseStart k r s)

theorem callPhase_returns (k : BitVec 4) (r : Request) (s : State) (h : (nextReply s).returns = true) :
    callPhase k r s =
      .answered (replyStatus r (nextReply s)) (afterCall r (nextReply s) (phaseStart k r s)) :=
  xfer_returns r (phaseStart k r s) h

theorem afterCall_i2c (r : Request) (a : Reply) (s : State) (slave : BitVec 7)
    (h : r.target = .i2c slave) : afterCall r a s = afterI2cCall r a s := by
  simp [afterCall, h]

theorem afterCall_spi (r : Request) (a : Reply) (s : State) (h : r.target = .spi) :
    afterCall r a s = afterSpiCall r a s := by
  simp [afterCall, h]

/-- What a returned call leaves alone: parameters, operands, results, the sequencing registers, the
handles, the inputs; what it always does: one answer used, one entry in the trace. -/
theorem afterCall_frame (r : Request) (a : Reply) (s : State) :
    (afterCall r a s).params = s.params ∧ (afterCall r a s).argOp = s.argOp ∧
    (afterCall r a s).argDev = s.argDev ∧ (afterCall r a s).argLoc = s.argLoc ∧
    (afterCall r a s).argAddr = s.argAddr ∧ (afterCall r a s).argData = s.argData ∧
    (afterCall r a s).resStatus = s.resStatus ∧ (afterCall r a s).resData = s.resData ∧
    (afterCall r a s).resBusy = s.resBusy ∧ (afterCall r a s).resRetries = s.resRetries ∧
    (afterCall r a s).resDone = s.resDone ∧ (afterCall r a s).engine = s.engine ∧
    (afterCall r a s).phase = s.phase ∧ (afterCall r a s).polling = s.polling ∧
    (afterCall r a s).retry = s.retry ∧ (afterCall r a s).busyLast = s.busyLast ∧
    (afterCall r a s).i2cChValid = s.i2cChValid ∧ (afterCall r a s).spiChValid = s.spiChValid ∧
    (afterCall r a s).inputs = s.inputs ∧ (afterCall r a s).replies = s.replies.tail ∧
    (afterCall r a s).draws = s.draws + 1 ∧ (afterCall r a s).trace = s.trace ++ [recordOf r a] ∧
    (afterCall r a s).fb = overlay (received r a) s.fb := by
  unfold afterCall
  split <;> exact ⟨rfl, rfl, rfl, rfl, rfl, rfl, rfl, rfl, rfl, rfl, rfl, rfl, rfl, rfl, rfl, rfl, rfl,
    rfl, rfl, rfl, rfl, rfl, rfl⟩

/-- The bytes of the buffer that a phase's call leaves: those it sends, or those it receives. -/
def leadOf (r : Request) (a : Reply) : List Byte :=
  match r.dir with
  | .write => r.buf
  | .read => received r a

theorem phaseCalled_fb (k : BitVec 4) (r : Request) (s : State) :
    (phaseCalled k r s).fb = leadOf r (nextReply s) ++
      List.replicate (s.params.fbCap - (leadOf r (nextReply s)).length) 0 := rfl

/-- A returned call leaves the frame buffer zero but for the bytes sent or received. -/
theorem afterCall_fb (k : BitVec 4) (r : Request) (s : State)
    (hl : (leadOf r (nextReply s)).length ≤ s.params.fbCap) (hr : r.dir = .read → r.buf = []) :
    overlay (received r (nextReply s)) (phaseStart k r s).fb = (phaseCalled k r s).fb := by
  simp only [phaseStart, loadFB_fb, phaseCalled_fb]
  cases hd : r.dir
  · have hn : received r (nextReply s) = [] := by simp [received, hd]
    have hb : leadOf r (nextReply s) = r.buf := by simp [leadOf, hd]
    rw [hn, overlay_nil, hb, overlay_zeros _ _ (hb ▸ hl)]
  · have hb : leadOf r (nextReply s) = received r (nextReply s) := by simp [leadOf, hd]
    rw [hr hd, overlay_nil, hb, overlay_zeros _ _ (hb ▸ hl)]

/-- An I2C phase's call: what `phaseCalled` says, and the I2C line. -/
theorem afterCall_i2cPhase (k : BitVec 4) (r : Request) (s : State) (slave : BitVec 7)
    (ht : r.target = .i2c slave) (hl : (leadOf r (nextReply s)).length ≤ s.params.fbCap)
    (hr : r.dir = .read → r.buf = []) :
    afterCall r (nextReply s) (phaseStart k r s) = { phaseCalled k r s with
      i2cLine := i2cLineAfter r (replyStatus r (nextReply s)) (nextReply s) s.i2cLine } := by
  rw [afterCall_i2c _ _ _ slave ht]
  unfold afterI2cCall
  rw [afterCall_fb k r s hl hr]
  rfl

/-- An SPI phase's call: what `phaseCalled` says, and the SPI line and device. -/
theorem afterCall_spiPhase (k : BitVec 4) (r : Request) (s : State)
    (ht : r.target = .spi) (hl : (leadOf r (nextReply s)).length ≤ s.params.fbCap)
    (hr : r.dir = .read → r.buf = []) :
    afterCall r (nextReply s) (phaseStart k r s) = { phaseCalled k r s with
      spiLine := spiLineAfter r (replyStatus r (nextReply s)) (nextReply s) (settleSpi s).spiLine
      spiMem := spiMemAfter r (settleSpi s)
      spiPending := spiPendingAfter r (nextReply s) (settleSpi s)
      spiReadySeen := false } := by
  rw [afterCall_spi _ _ _ ht]
  unfold afterSpiCall
  rw [afterCall_fb k r s hl hr]
  rfl

/-- A read leaves as many leading bytes as it asked for. -/
theorem length_received (r : Request) (a : Reply) (h : r.dir = .read) :
    (received r a).length = r.byteCount := by
  simp only [received, h, List.length_take, List.length_append, List.length_replicate]
  omega

/-- A byte of a buffer that is zero after its leading bytes. -/
theorem getD_append_zeros (lead : List Byte) (m n : Nat) :
    (lead ++ List.replicate m (0 : Byte)).getD n 0 = lead.getD n 0 := by
  simp only [List.getD_eq_getElem?_getD, List.getElem?_append]
  split
  · rfl
  · rename_i h
    rw [List.getElem?_eq_none (by omega : lead.length ≤ n), List.getElem?_replicate]
    split <;> rfl

/-! ## Phases in a row -/

/-- A phase hangs, passes to the next one, or ends the operation through `fail`. -/
theorem phaseStep_cases (k : BitVec 4) (r : Request) (fail : Status → State → State) (s : State) :
    ((nextReply s).returns = false ∧ phaseStep k r fail s = .stuck) ∨
    ((nextReply s).returns = true ∧ replyStatus r (nextReply s) = .ok ∧
      phaseStep k r fail s =
        .passed { afterCall r (nextReply s) (phaseStart k r s) with phase := k + 1 }) ∨
    ((nextReply s).returns = true ∧ replyStatus r (nextReply s) ≠ .ok ∧
      phaseStep k r fail s = .stopped
        (fail (replyStatus r (nextReply s)) (afterCall r (nextReply s) (phaseStart k r s)))) := by
  unfold phaseStep
  rcases callPhase_cases k r s with ⟨h, e⟩ | ⟨h, e⟩
  · exact .inl ⟨h, by rw [e]⟩
  · rw [e]
    by_cases ho : replyStatus r (nextReply s) = .ok
    · exact .inr (.inl ⟨h, ho, by simp [ho]⟩)
    · exact .inr (.inr ⟨h, ho, by simp [ho]⟩)

theorem flowOutcome_next (f : Flow) (t : State) :
    flowOutcome f = .next t ↔ f = .stopped t ∨ f = .passed t := by
  cases f <;> simp [flowOutcome]

theorem flowOutcome_fault (f : Flow) (r : Fault) :
    flowOutcome f = .fault r ↔ f = .stuck ∧ r = .callNeverReturns := by
  cases f <;> simp [flowOutcome, eq_comm]

theorem flowOutcome_not_refused (f : Flow) (r : Refusal) : flowOutcome f ≠ .refused r := by
  cases f <;> simp [flowOutcome]

/-- A row of two phases hangs or ends in the first, or goes on from where the first passed. -/
theorem andThen_cases (f : Flow) (next : State → Flow) :
    (f = .stuck ∧ andThen f next = .stuck) ∨
    (∃ t, f = .stopped t ∧ andThen f next = .stopped t) ∨
    (∃ t, f = .passed t ∧ andThen f next = next t) := by
  cases f <;> simp [andThen]

/-! ## Accepting a command -/

/-- A command is accepted with the handle sampled, or ended at once with `NotOpened`. -/
theorem start_cases (bus : Bus) (op : BitVec 2) (dev : BitVec 7) (loc : BitVec 11) (addr : BitVec 8)
    (data : DataWord) (s : State) :
    (handleOf bus s = true ∧ start bus op dev loc addr data s = accept op dev loc addr data s) ∨
    (handleOf bus s = false ∧ start bus op dev loc addr data s =
      finish .notOpened 0 false 0 (accept op dev loc addr data s)) := by
  unfold start
  cases h : handleOf bus s <;> simp

/-! ## The ready line -/

/-- Where the ready line has not shown ready there is nothing to settle. -/
@[simp] theorem settleSpi_of_not_seen (s : State) (h : s.spiReadySeen = false) : settleSpi s = s := by
  cases s
  simp_all [settleSpi]

/-- Seen ready, the device has ended its cycle, and its write, where it had one, has committed. -/
theorem settleSpi_of_seen (s : State) (h : s.spiReadySeen = true) :
    (s.spiPending = none ∧ settleSpi s =
      { s with spiLine := { s.spiLine with cycle := false }, spiReadySeen := false }) ∨
    (∃ addr v, s.spiPending = some (addr, v) ∧ settleSpi s =
      { s with spiLine := { s.spiLine with cycle := false }, spiMem := writeCell s.spiMem addr v,
               spiPending := none, spiReadySeen := false }) := by
  rcases hp : s.spiPending with _ | ⟨addr, v⟩
  · exact .inl ⟨rfl, by cases s; simp_all [settleSpi]⟩
  · exact .inr ⟨addr, v, rfl, by simp [settleSpi, h, hp]⟩

/-- Sampling the ready line changes what a word reads as in one case only: a device selected shows ready
and the word is the one being written. -/
theorem readSpi_noteReady (busy : Bool) (s : State) (addr : BitVec 8) :
    (∃ v, busy = false ∧ s.spiLine.cs = true ∧ s.spiPending = some (addr.toNat, v) ∧
      readSpi (noteReady busy s) addr = some v) ∨
    ((busy = false → s.spiLine.cs = true → ∀ v, s.spiPending ≠ some (addr.toNat, v)) ∧
      readSpi (noteReady busy s) addr = readSpi s addr) := by
  cases hb : busy <;> cases hc : s.spiLine.cs <;> cases hr : s.spiReadySeen <;>
    rcases hp : s.spiPending with _ | ⟨k, v⟩ <;>
    simp [readSpi, settleSpi, noteReady, hc, hr, hp]
  all_goals
    by_cases hk : k = addr.toNat
    · subst hk
      exact .inl ⟨rfl, readCell_writeCell_same _ _ _⟩
    · first
        | exact .inr ⟨hk, readCell_writeCell_other _ _ _ _ (Ne.symm hk)⟩
        | exact .inr hk

/-- An acknowledged poll touches the I2C device alone. -/
theorem confirmI2c_cases (s : State) :
    (s.i2cPending = none ∧ confirmI2c s =
      { s with i2cPending := none, i2cLine := { s.i2cLine with cycle := false } }) ∨
    (∃ addr v, s.i2cPending = some (addr, v) ∧ confirmI2c s =
      { s with i2cMem := writeCell s.i2cMem addr v, i2cPending := none,
               i2cLine := { s.i2cLine with cycle := false } }) := by
  unfold confirmI2c
  rcases h : s.i2cPending with _ | ⟨addr, v⟩
  · exact .inl ⟨rfl, rfl⟩
  · exact .inr ⟨addr, v, rfl, rfl⟩

/-! ## Every memory operation keeps the canonical form -/

theorem latchI2c_memWf (slave : BitVec 7) (reg data : Byte) (e : Status) (a : Reply) (s : State)
    (h : memWf s = true) : memWf (latchI2c slave reg data e a s) = true := by
  simp only [memWf, Bool.and_eq_true, latchI2c_i2cMem, latchI2c_spiMem] at h ⊢
  refine ⟨?_, h.2⟩
  split
  · exact writeCell_wf _ _ _ _ (i2cCell_lt slave reg) h.1
  · rfl

theorem confirmI2c_memWf (s : State) (hp : ∀ p, s.i2cPending = some p → p.1 < i2cCells)
    (h : memWf s = true) : memWf (confirmI2c s) = true := by
  simp only [memWf, Bool.and_eq_true] at h
  rcases confirmI2c_cases s with ⟨_, e⟩ | ⟨addr, v, hs, e⟩
  · simpa [memWf, e] using h
  · have := hp _ hs
    simp only [memWf, e, Bool.and_eq_true]
    exact ⟨writeCell_wf _ _ _ _ this h.1, h.2⟩

theorem settleSpi_memWf (s : State) (hp : ∀ p, s.spiPending = some p → p.1 < spiWords)
    (h : memWf s = true) : memWf (settleSpi s) = true := by
  cases hs : s.spiReadySeen
  · rw [settleSpi_of_not_seen s hs]; exact h
  · simp only [memWf, Bool.and_eq_true] at h
    rcases settleSpi_of_seen s hs with ⟨_, e⟩ | ⟨addr, v, hw, e⟩
    · simpa [memWf, e] using h
    · simp only [memWf, e, Bool.and_eq_true]
      exact ⟨h.1, writeCell_wf _ _ _ _ (hp _ hw) h.2⟩

/-- A frame writes at an address of the SPI device. -/
theorem frameWrites_lt (r : Request) (l : SpiLine) (p : Nat × DataWord) (h : frameWrites r l = some p) :
    p.1 < spiWords := by
  simp only [frameWrites] at h
  split at h
  · split at h
    · rename_i a lo hi _
      rw [Option.some.injEq] at h
      subst h
      exact a.isLt
    · cases h
  · cases h

theorem afterSpiCall_memWf (r : Request) (a : Reply) (s : State)
    (hp : ∀ p, s.spiPending = some p → p.1 < spiWords) (h : memWf s = true) :
    memWf (afterSpiCall r a s) = true := by
  have h := settleSpi_memWf s hp h
  simp only [memWf, Bool.and_eq_true] at h
  simp only [memWf, Bool.and_eq_true, afterSpiCall_i2cMem, afterSpiCall_spiMem, spiMemAfter]
  refine ⟨h.1, ?_⟩
  split
  · rfl
  · split
    · rename_i addr v hw
      exact writeCell_wf _ _ _ _ (frameWrites_lt r (settleSpi s).spiLine (addr, v) hw) h.2
    · exact h.2

theorem afterI2cCall_memWf (r : Request) (a : Reply) (s : State) (h : memWf s = true) :
    memWf (afterI2cCall r a s) = true := h

/-- A returned call keeps both arrays canonical. -/
theorem afterCall_memWf (r : Request) (a : Reply) (s : State)
    (hp : ∀ p, s.spiPending = some p → p.1 < spiWords) (h : memWf s = true) :
    memWf (afterCall r a s) = true := by
  unfold afterCall
  split
  · exact h
  · exact afterSpiCall_memWf r a s hp h

/-- The device arrays after reset are in canonical form. -/
theorem reset_memWf : memWf State.reset = true := by decide

end Sys2Proof.Machine
end

