-- ==== Sys2Proof/Laws/PerInstr.lean ====
section
/-! SUPPORT. Statements about the instructions as syntax, one lemma per constructor. -/

namespace Sys2Proof.Laws.EncodingWellFormed

/-- What an instruction encodes to is well formed at its layer: a request has the flags of its bus and
exactly its leading bytes (30_encoding R67, R73), a wire frame one of the three lengths of R76 to R79. -/
def Statement (i : Instr) : Prop :=
  match encode i with
  | .command _ => True
  | .request r => r.wf = true
  | .wire bits => bits.length = 9 ∨ bits.length = 12 ∨ bits.length = 27

theorem i2cWriteByte (dev : BitVec 7) (loc : BitVec 11) (data : Byte) :
    Statement (.i2cWriteByte dev loc data) := trivial
theorem i2cReadByte (dev : BitVec 7) (loc : BitVec 11) : Statement (.i2cReadByte dev loc) := trivial
theorem spiWriteWord (addr : BitVec 8) (data : DataWord) : Statement (.spiWriteWord addr data) := trivial
theorem spiReadWord (addr : BitVec 8) : Statement (.spiReadWord addr) := trivial
theorem spiFrameWriteEnable (x : BitVec 4) : Statement (.spiFrameWriteEnable x) := .inl rfl
theorem spiFrameWriteDisable (x : BitVec 4) : Statement (.spiFrameWriteDisable x) := .inl rfl
theorem spiFrameWrite (a : BitVec 8) (lo hi : Byte) : Statement (.spiFrameWrite a lo hi) :=
  .inr (.inr rfl)
theorem spiFrameRead (a : BitVec 8) : Statement (.spiFrameRead a) := .inr (.inl rfl)
theorem spiWe : Statement .spiWe := rfl
theorem spiWrOp (a : BitVec 5) : Statement (.spiWrOp a) := rfl
theorem spiWrLo (b : BitVec 3) : Statement (.spiWrLo b) := by
  simp [Statement, encode, Request.spiWrLo, Request.wf, Options.wf, Options.reserved, Request.byteCount]
theorem spiWrData (lo hi : Byte) : Statement (.spiWrData lo hi) := rfl
theorem spiWd : Statement .spiWd := rfl
theorem spiRdOp (a : BitVec 5) : Statement (.spiRdOp a) := rfl
theorem spiRdLo (b : BitVec 3) : Statement (.spiRdLo b) := by
  simp [Statement, encode, Request.spiRdLo, Request.wf, Options.wf, Options.reserved, Request.byteCount]
theorem spiRdData : Statement .spiRdData := rfl
theorem i2cPrimary (slave : BitVec 7) (reg data : Byte) : Statement (.i2cPrimary slave reg data) := rfl
theorem i2cPoll (slave : BitVec 7) (reg : Byte) : Statement (.i2cPoll slave reg) := rfl
theorem i2cSetup (slave : BitVec 7) (reg : Byte) : Statement (.i2cSetup slave reg) := rfl
theorem i2cRead (slave : BitVec 7) : Statement (.i2cRead slave) := rfl

end Sys2Proof.Laws.EncodingWellFormed
end

