-- ==== Sys2Proof/Tests/Slice0.lean ====
section
/-! SUPPORT. The model's own tests: ill-formed terms refused, words written out from the spec decoded, the
vectors of 95_test_vectors one step at a time, and for every statement with hypotheses a state that meets
them. -/

namespace Sys2Proof.Tests

open Sys2Proof.Machine

/-! ## Helpers -/

/-- Parameters inside every stated range. -/
def someParams : Params :=
  { i2cRetryBudget := 3, spiBusyBudget := 2, i2cLocLimit := 2048, fbCap := 2, i2cPrimaryAbort := true,
    addrPacking := .prose53 }

/-- The state after reset with those parameters and both handles valid. -/
def ready : State :=
  { State.reset with params := someParams, fb := [0, 0], i2cChValid := true, spiChValid := true }

/-- A running operation at a phase, its calls answered from a script. -/
def running (op : BitVec 2) (phase : BitVec 4) (replies : List Reply) : State :=
  { ready with engine := .running, argOp := op, phase := phase, replies := replies }

/-- An answer that returns. -/
def answer (code moved : Nat) (bytes : List Byte := []) (busy : Bool := false) : Reply :=
  { returns := true, code := code, moved := moved, bytes := bytes, busy := busy,
    i2cAfter := { opened := true, cycle := false },
    spiAfter := { cs := true, wire := [], enabled := true, cycle := false } }

/-- An answer that never comes. -/
def silence : Reply := { answer 0 0 with returns := false }

/-- What is seen of the next state, where there is one. -/
def seen {α : Type} (f : State → α) (o : Host.Outcome State Fault Refusal) : Option α :=
  match o with
  | .next s => some (f s)
  | _ => none

/-- The result registers. -/
def result (s : State) : BitVec 8 × BitVec 16 × Bool × BitVec 8 × Bool :=
  (s.resStatus, s.resData, s.resBusy, s.resRetries, s.resDone)

/-- An SPI request, its fields in the order of 30_encoding R75. -/
def spiCall (dir : Direction) (buf : List Byte) (size : Nat) (opts : Options) : Request :=
  { target := .spi, dir := dir, buf := buf, size := size, opts := opts }

/-- An I2C request, its fields in the order of 30_encoding R72. -/
def i2cCall (slave : BitVec 7) (dir : Direction) (buf : List Byte) (size : Nat) (opts : Options) :
    Request :=
  { target := .i2c slave, dir := dir, buf := buf, size := size, opts := opts }

/-! ## Well-formedness refuses -/

theorem test_params_refuse_budget_0 : Params.wf { someParams with i2cRetryBudget := 0 } = false := by decide
theorem test_params_refuse_budget_256 : Params.wf { someParams with i2cRetryBudget := 256 } = false := by
  decide
theorem test_params_refuse_busy_budget_0 : Params.wf { someParams with spiBusyBudget := 0 } = false := by
  decide
theorem test_params_refuse_busy_budget_256 : Params.wf { someParams with spiBusyBudget := 256 } = false := by
  decide
theorem test_params_refuse_limit_0 : Params.wf { someParams with i2cLocLimit := 0 } = false := by decide
theorem test_params_refuse_limit_2049 : Params.wf { someParams with i2cLocLimit := 2049 } = false := by
  decide
theorem test_params_refuse_capacity_1 : Params.wf { someParams with fbCap := 1 } = false := by decide
theorem test_params_accept : Params.wf someParams = true := by decide

theorem test_options_refuse_reserved :
    Options.wf .spi { noAddress := true } = false ∧ Options.wf .spi { fastBytes := true } = false ∧
    Options.wf (.i2c 0) { fastBits := true } = false := by decide
theorem test_options_refuse_other_bus :
    Options.wf (.i2c 0x50) { startBit := true, chipSelectEnable := true } = false ∧
    Options.wf .spi { stopBit := true } = false := by decide

/-- A three-bit write carries one byte, not two. -/
theorem test_request_refuses_wrong_length :
    Request.wf { Request.spiWrLo 5 with buf := [0xA0, 0] } = false ∧
    Request.wf (Request.spiWrLo 5) = true := by decide
theorem test_request_refuses_read_with_bytes :
    Request.wf { Request.spiRdData with buf := [0] } = false := by decide

/-- The caller's duty on the location (20_memory R41): the first location out of range, for each of the two
operations that have one; the last one in range. -/
theorem test_instr_refuses_location_limit :
    Instr.wf { someParams with i2cLocLimit := 256 } (.i2cWriteByte 0x50 256 0) = false ∧
    Instr.wf { someParams with i2cLocLimit := 256 } (.i2cReadByte 0x50 256) = false ∧
    Instr.wf { someParams with i2cLocLimit := 256 } (.i2cReadByte 0x50 255) = true := by decide

/-! ## Decoding: words written out from the tables -/

/-- 95 2.1. -/
theorem test_decode_i2cWriteByte :
    decode (.command 0x280010AB) = .ok (.i2cWriteByte 0x50 0x010 0xAB) ∧
    decode (.command 0x3F87FFFF) = .ok (.i2cWriteByte 0x7F 0x7FF 0xFF) := by decide
/-- 95 2.1. -/
theorem test_decode_i2cReadByte :
    decode (.command 0x6802A500) = .ok (.i2cReadByte 0x50 0x2A5) ∧
    decode (.command 0x6B810000) = .ok (.i2cReadByte 0x57 0x100) := by decide
/-- 95 2.1. -/
theorem test_decode_spiWriteWord :
    decode (.command 0x80051234) = .ok (.spiWriteWord 0x05 0x1234) ∧
    decode (.command 0x80FFFFFF) = .ok (.spiWriteWord 0xFF 0xFFFF) := by decide
/-- 95 2.1. -/
theorem test_decode_spiReadWord : decode (.command 0xC02B0000) = .ok (.spiReadWord 0x2B) := by decide
/-- 95 2.1, the illegal words. -/
theorem test_decode_illegal_commands :
    ([0x00080000, 0x00780000, 0x40000001, 0x7FFFFFFF, 0x81000000, 0xC0000001, 0xFFFFFFFF].map fun w =>
      decide (decode (.command w) = .error .illegalCommand)) = List.replicate 7 true := by decide

/-- 30_encoding R76: `1 0 0 1 1` and four ignored bits. -/
theorem test_decode_spiFrameWriteEnable :
    decode (.wire [true, false, false, true, true, false, true, false, true]) =
      .ok (.spiFrameWriteEnable 0b0101) := by decide
/-- 30_encoding R77: `1 0 0 0 0` and four ignored bits. -/
theorem test_decode_spiFrameWriteDisable :
    decode (.wire [true, false, false, false, false, true, true, true, false]) =
      .ok (.spiFrameWriteDisable 0b1110) := by decide
/-- 95 P2, the second group of operation 1: `10100000 101 00110100 00010010`. -/
theorem test_decode_spiFrameWrite :
    decode (.wire ([true, false, true, false, false, false, false, false] ++ [true, false, true] ++
      [false, false, true, true, false, true, false, false] ++
      [false, false, false, true, false, false, true, false])) =
      .ok (.spiFrameWrite 0x05 0x34 0x12) := by decide
/-- 95 P2, operation 2: `11000000 1010`. -/
theorem test_decode_spiFrameRead :
    decode (.wire [true, true, false, false, false, false, false, false, true, false, true, false]) =
      .ok (.spiFrameRead 0x05) := by decide
/-- The dummy bit must be 0 (R79); no other prefix and no other length is a frame (R86). -/
theorem test_decode_no_frame :
    decode (.wire [true, true, false, false, false, false, false, false, true, false, true, true]) =
      .error .unknownFrame ∧
    decode (.wire [true, true, true, false, false, false, false, false, true]) = .error .unknownFrame ∧
    decode (.wire [true, false, true]) = .error .unknownFrame := by decide

/-- 30_encoding R75, each request written out. -/
theorem test_decode_spiWe :
    decode (.request (spiCall .write [0x9F, 0x00] 9
      { sizeInBits := true, chipSelectEnable := true, chipSelectDisable := true })) =
      .ok .spiWe := by decide
theorem test_decode_spiWrOp :
    decode (.request (spiCall .write [0xA5] 1 { chipSelectEnable := true })) =
      .ok (.spiWrOp 0x05) := by decide
theorem test_decode_spiWrLo :
    decode (.request (spiCall .write [0x60] 3 { sizeInBits := true })) = .ok (.spiWrLo 3) := by decide
theorem test_decode_spiWrData :
    decode (.request (spiCall .write [0x34, 0x12] 2 { chipSelectDisable := true })) =
      .ok (.spiWrData 0x34 0x12) := by decide
theorem test_decode_spiWd :
    decode (.request (spiCall .write [0x87, 0x00] 9
      { sizeInBits := true, chipSelectEnable := true, chipSelectDisable := true })) =
      .ok .spiWd := by decide
theorem test_decode_spiRdOp :
    decode (.request (spiCall .write [0xC5] 1 { chipSelectEnable := true })) =
      .ok (.spiRdOp 0x05) := by decide
theorem test_decode_spiRdLo :
    decode (.request (spiCall .write [0x60] 4 { sizeInBits := true })) = .ok (.spiRdLo 3) := by decide
theorem test_decode_spiRdData :
    decode (.request (spiCall .read [] 2 { chipSelectDisable := true })) = .ok .spiRdData := by decide
/-- 30_encoding R72, each request written out. -/
theorem test_decode_i2cPrimary :
    decode (.request (i2cCall 0x50 .write [0x10, 0xAB] 2 { startBit := true, stopBit := true })) =
      .ok (.i2cPrimary 0x50 0x10 0xAB) := by decide
theorem test_decode_i2cPoll :
    decode (.request (i2cCall 0x50 .write [0x10] 1 { startBit := true, breakOnNack := true })) =
      .ok (.i2cPoll 0x50 0x10) := by decide
theorem test_decode_i2cSetup :
    decode (.request (i2cCall 0x50 .write [0x10] 1 { startBit := true })) =
      .ok (.i2cSetup 0x50 0x10) := by decide
theorem test_decode_i2cRead :
    decode (.request (i2cCall 0x50 .read [] 1 { startBit := true, nackLastByte := true })) =
      .ok (.i2cRead 0x50) := by decide
/-- 93 U6; 30_encoding R84; a byte that is no opcode byte. -/
theorem test_decode_refused_requests :
    decode (.request { Request.i2cPoll 0x50 0x10 with opts := { startBit := true, noAddress := true } }) =
      .error .reservedFlag ∧
    decode (.request .spiStrobe) = .error .chipSelectOnly ∧
    decode (.request .spiRelease) = .error .chipSelectOnly ∧
    decode (.request { Request.spiWrOp 0 with buf := [0x80] }) = .error .unknownRequest := by decide

/-- The table's own numbering (98_reader): a command row, the two opcode-byte rows. -/
theorem test_decodeTableWord :
    decodeTableWord 32 0x80051234 = some (.spiWriteWord 0x05 0x1234) ∧
    decodeTableWord 32 0x40000001 = none ∧
    decodeTableWord 8 0xA5 = some (.spiWrOp 0x05) ∧ decodeTableWord 8 0xC5 = some (.spiRdOp 0x05) := by
  decide

/-! ## Address framing and packing -/

/-- 95 2.2. -/
theorem test_slave_fold :
    slaveOf 0x50 0x080 = 0x50 ∧ slaveOf 0x50 0x2A5 = 0x54 ∧ slaveOf 0x50 0x7FF = 0x5E ∧
    slaveOf 0x57 0x100 = 0x57 ∧ slaveOf 0x51 0x300 = 0x57 ∧ regOf 0x080 = 0x80 ∧ regOf 0x2A5 = 0xA5 := by
  decide

/-- 95 S3: the two readings of the write's address bytes, and P3's bytes of a read. -/
theorem test_address_packing :
    (Request.spiWrOp (writeHigh .prose53 0x05)).buf = [0xA0] ∧
    (Request.spiWrLo (writeLow .prose53 0x05)).buf = [0xA0] ∧
    (Request.spiWrOp (writeHigh .s8Literal 0x05)).buf = [0xA2] ∧
    (Request.spiWrLo (writeLow .s8Literal 0x05)).buf = [0x80] ∧
    (Request.spiRdOp (readHigh .prose53 0x2B)).buf = [0xC5] ∧
    (Request.spiRdLo (readLow .prose53 0x2B)).buf = [0x60] := by decide

/-- 95 2.5: `0x8001` is sent `00000001 10000000` and reassembles. -/
theorem test_data_packing :
    (Request.spiWrData (wordLow 0x8001) (wordHigh 0x8001)).bits =
      bitsOf (0b00000001#8) ++ bitsOf (0b10000000#8) ∧ joinWord 0x01 0x80 = 0x8001 := by decide

/-- 95 2.8. -/
theorem test_effective_status :
    eff .ok 2 2 = .ok ∧ eff .ok 1 2 = .other ∧ eff .ok 3 2 = .other ∧ eff .ok 1 0 = .other ∧
    eff .ioError 2 2 = .ioError ∧ eff .deviceNotFound 0 1 = .deviceNotFound := by decide

/-- 30_encoding R72: the read frame `Sr {SLAVE,1} a <byte> N`. -/
theorem test_i2c_symbols :
    i2cSymbols true 0x54 (.i2cRead 0x54) [0x3C] =
      [.repeatedStart, .byte 0xA9, .deviceAck, .byte 0x3C, .controllerNack] := by decide

/-! ## Steps -/

/-- 95 Z1. -/
theorem test_step_spiWriteWord :
    seen (fun t => (t.engine, t.resDone, t.argOp, t.argAddr, t.argData, t.phase))
      (step { ready with resDone := true, inputs := [.cmd 0x80051234] }) =
      some (.running, false, 2, 0x05, 0x1234, 0) := by decide
/-- 95 Z2. -/
theorem test_step_command_while_running :
    step { running 2 3 [] with inputs := [.cmd 0xC0050000] } = .next (running 2 3 []) := rfl
/-- 95 Z3. -/
theorem test_step_illegal_command :
    seen (fun t => (result t, t.engine, t.argAddr))
      (step { ready with argAddr := 7, inputs := [.cmd 0x40000001] }) =
      some ((6, 0, false, 0, true), .idle, 7) := by decide
/-- 95 Z4. -/
theorem test_step_i2cReadByte_no_handle :
    seen (fun t => (result t, t.engine, t.trace))
      (step { ready with i2cChValid := false, inputs := [.cmd 0x68001000] }) =
      some ((3, 0, false, 0, true), .idle, []) := by decide
/-- 95 2.1 and 10_state R23. -/
theorem test_step_i2cWriteByte :
    seen (fun t => (t.engine, t.argDev, t.argLoc, t.argData))
      (step { ready with inputs := [.cmd 0x280010AB] }) = some (.running, 0x50, 0x010, 0x00AB) := by decide
/-- 95 P6: without its handle `SPI_READ_WORD` is accepted and ends at once. -/
theorem test_step_spiReadWord_no_handle :
    seen (fun t => (result t, t.argOp, t.argAddr, t.engine))
      (step { ready with spiChValid := false, inputs := [.cmd 0xC0050000] }) =
      some ((3, 0, false, 0, true), 3, 0x05, .idle) := by decide

/-- 95 W8: `OK` with one byte of two is `Other`. -/
theorem test_step_i2cPrimary_short :
    seen (fun t => (result t, t.engine))
      (step { running 0 0 [answer 0 1] with argDev := 0x50, argLoc := 0x010, argData := 0xAB }) =
      some ((18, 0, false, 0, true), .idle) := by decide
/-- 95 W7: the other reading, under which a failed primary write is forgotten. -/
theorem test_exec_i2cPrimary_no_abort :
    seen (fun t => (t.phase, t.engine, t.retry))
      (exec (.i2cPrimary 0x50 0x10 0xAB)
        { running 0 1 [answer 4 0] with params := { someParams with i2cPrimaryAbort := false } }) =
      some (2, .running, 0) := by decide
/-- 95 W5, the last poll: the budget is used up. -/
theorem test_exec_i2cPoll_exhausts :
    seen (fun t => (result t, t.engine))
      (exec (.i2cPoll 0x50 0x10) { running 0 2 [answer 4 0] with retry := 2 }) =
      some ((4, 0, false, 3, true), .idle) := by decide
/-- 95 W4, the last poll: `OK` commits the byte. -/
theorem test_exec_i2cPoll_commits :
    seen (fun t => (result t, readI2c t 0x50 0x10))
      (exec (.i2cPoll 0x50 0x10)
        { running 0 2 [answer 0 1] with retry := 2, i2cPending := some (i2cCell 0x50 0x10, 0xAB) }) =
      some ((0, 0, false, 3, true), some 0xAB) := by decide
/-- 95 V1, the first call. -/
theorem test_exec_i2cSetup :
    seen (fun t => (t.phase, t.i2cLine.opened, t.fb)) (exec (.i2cSetup 0x50 0x10) (running 1 1 [answer 0 1])) =
      some (2, true, [0x10, 0]) := by decide
/-- 95 V5: zero extension. -/
theorem test_exec_i2cRead :
    seen result (exec (.i2cRead 0x50) (running 1 2 [answer 0 1 [0xFF]])) =
      some (0, 0x00FF, false, 0, true) := by decide
/-- 95 V3: the status is the channel's; nothing is said of the data. -/
theorem test_exec_i2cRead_fails :
    seen (fun t => (t.resStatus, t.resRetries, t.engine))
      (exec (.i2cRead 0x50) (running 1 2 [answer 6 1 [0x77]])) = some (6, 0, .idle) := by decide

/-- 95 X1, the first call: the device is write-enabled. -/
theorem test_exec_spiWe :
    seen (fun t => (t.phase, t.fb, t.spiLine.enabled, t.spiLine.cs)) (exec .spiWe (running 2 1 [answer 0 9])) =
      some (2, [0x9F, 0], true, false) := by decide
/-- 95 X8: nine bits asked, eight moved. -/
theorem test_exec_spiWe_short :
    seen (fun t => (result t, t.engine)) (exec .spiWe (running 2 1 [answer 0 8])) =
      some ((18, 0, false, 0, true), .idle) := by decide
/-- 95 X3. -/
theorem test_exec_spiWrOp_fails :
    seen result (exec (.spiWrOp 0) (running 2 2 [answer 2 0])) = some (2, 0, false, 0, true) := by decide
/-- 95 P5: opcode byte `0xBF`, chip select held. -/
theorem test_exec_spiWrOp :
    seen (fun t => (t.fb, t.spiLine.cs, t.phase)) (exec (.spiWrOp 0x1F) (running 2 2 [answer 0 1])) =
      some ([0xBF, 0], true, 3) := by decide
/-- 95 P5: low address bits `0xE0`. -/
theorem test_exec_spiWrLo :
    seen (fun t => (t.fb, t.phase)) (exec (.spiWrLo 7) (running 2 3 [answer 0 3])) =
      some ([0xE0, 0], 4) := by decide
/-- 95 X1, the fourth call: low byte first, chip select released. -/
theorem test_exec_spiWrData :
    seen (fun t => (t.fb, t.phase, t.spiLine.cs))
      (exec (.spiWrData 0x34 0x12) { running 2 4 [answer 0 2] with
        spiLine := { cs := true, wire := bitsOf 0b10100000101#11, enabled := true, cycle := false } }) =
      some ([0x34, 0x12], 5, false) := by decide
/-- 95 X7: a zero-length call answered with one unit moved. -/
theorem test_step_strobe_mismatch :
    seen result (step (running 2 5 [answer 0 1])) = some (18, 0, false, 0, true) := by decide
/-- 95 X5, the failing poll: the busy value of the call before it. -/
theorem test_step_isBusy_fails :
    seen result (step { running 2 5 [answer 4 0] with polling := true, retry := 1, busyLast := true }) =
      some (4, 0, true, 2, true) := by decide
/-- 95 P5, the second poll: the budget is used up and the operation goes on. -/
theorem test_step_isBusy_exhausts :
    seen (fun t => (t.phase, t.retry, t.busyLast, t.engine))
      (step { running 2 5 [answer 0 0 [] true] with polling := true, retry := 1, busyLast := true }) =
      some (6, 2, true, .running) := by decide
/-- 95 X6: no Write-Disable after a failed release. -/
theorem test_step_release_fails :
    seen result (step { running 2 6 [answer 2 0] with retry := 2 }) = some (2, 0, false, 2, true) := by decide
/-- 95 X2, the last call: the result carries the busy hint. -/
theorem test_exec_spiWd :
    seen (fun t => (result t, t.fb)) (exec .spiWd { running 2 7 [answer 0 9] with retry := 1, busyLast := true }) =
      some ((0, 0, true, 1, true), [0x87, 0]) := by decide
/-- 95 P3: opcode byte `0xC5`. -/
theorem test_exec_spiRdOp :
    seen (fun t => (t.fb, t.spiLine.cs, t.phase)) (exec (.spiRdOp 0x05) (running 3 1 [answer 0 1])) =
      some ([0xC5, 0], true, 2) := by decide
/-- 95 Y7: four bits asked, three moved. -/
theorem test_exec_spiRdLo_short :
    seen (fun t => (t.resStatus, t.engine, t.fb)) (exec (.spiRdLo 5) (running 3 2 [answer 0 3])) =
      some (18, .idle, [0xA0, 0]) := by decide
/-- 95 Y5: the first byte received is the low one. -/
theorem test_exec_spiRdData :
    seen result (exec .spiRdData (running 3 3 [answer 0 2 [0x00, 0xFF]])) =
      some (0, 0xFF00, false, 0, true) := by decide
/-- 95 Y4: one byte of two. -/
theorem test_exec_spiRdData_short :
    seen (fun t => (t.resStatus, t.resBusy, t.resRetries)) (exec .spiRdData (running 3 3 [answer 0 1 [0x34, 0]])) =
      some (18, false, 0) := by decide

/-- 95 Y4 with 00_scope R15: the record of that call has both leading bytes, the second still 0. -/
theorem test_record_of_short_read :
    seen (fun t => t.trace) (exec .spiRdData (running 3 3 [answer 0 1 [0x34]])) =
      some [.xfer .spiRdData .ok 1 [0x34, 0x00]] := by decide
/-- 40_channel_primitives R102: a ready answer leaves the device as it is; a claim on what it holds may take
it into account. -/
theorem test_isBusy_changes_nothing :
    seen (fun t => (t.spiPending, t.spiMem, t.spiLine.cycle, readSpi t 5))
      (step { running 2 5 [answer 0 0] with
        polling := true, spiPending := some (5, 0x1234)
        spiLine := { cs := true, wire := [], enabled := true, cycle := true } }) =
      some (some (5, 0x1234), [], true, some 0x1234) := by decide
/-- 93 U7: the first location out of range; the engine goes on, nothing is known of the device. -/
theorem test_primary_out_of_range :
    seen (fun t => (t.phase, t.i2cMem, t.i2cPending))
      (exec (.i2cPrimary 0x50 0 0xAB) { running 0 1 [answer 0 2] with
        params := { someParams with i2cLocLimit := 256 }, argLoc := 256
        i2cMem := [(i2cCell 0x50 1, 7)] }) = some (2, [], none) := by decide

/-- 30_encoding R76 with other ignored bits than the engine's: `10011 0101`. -/
theorem test_exec_spiFrameWriteEnable :
    seen (fun t => (t.phase, t.fb, t.spiLine.enabled))
      (exec (.spiFrameWriteEnable 0b0101) (running 2 1 [answer 0 9])) =
      some (2, [0b10011010, 0b10000000], true) := by decide
/-- 30_encoding R77. -/
theorem test_exec_spiFrameWriteDisable :
    seen (fun t => (t.resStatus, t.fb, t.spiLine.enabled))
      (exec (.spiFrameWriteDisable 0b1110) (running 2 7 [answer 0 9])) = some (0, [0x87, 0], false) := by
  decide
/-- 95 P2, calls 2 to 4 of operation 1. -/
theorem test_exec_spiFrameWrite :
    seen (fun t => (t.phase, t.trace.length, t.spiPending))
      (exec (.spiFrameWrite 0x05 0x34 0x12) (running 2 2 [answer 0 1, answer 0 3, answer 0 2])) =
      some (5, 3, some (5, 0x1234)) := by decide
/-- 95 Y3: the second call fails and the read phase is not issued. -/
theorem test_exec_spiFrameRead_stops :
    seen (fun t => (t.resStatus, t.trace.length, t.engine))
      (exec (.spiFrameRead 0x05) (running 3 1 [answer 0 1, answer 4 0])) = some (4, 2, .idle) := by decide

/-- 40_channel_primitives R113. -/
theorem test_hung_call : step (running 3 1 [silence]) = .fault .callNeverReturns := rfl

/-- The host's question on a command row and on an opcode-byte row: the next step after reset runs it. -/
theorem test_placed_words_run :
    seen (fun t => (t.argOp, t.resStatus)) (step (State.reset.withFetchWord 32 0xC0050000)) = some (3, 3) ∧
    seen (fun t => (t.phase, t.spiLine.cs)) (step (State.reset.withFetchWord 8 0xC5)) = some (2, true) := by
  decide

/-! ## A state that meets the hypotheses, for every statement that has some -/

/-- A poll of the ready line comes next. -/
def polled (retry : BitVec 8) (reply : Reply) : State :=
  { running 2 5 [reply] with polling := true, retry := retry }

/-- An SPI line with chip select asserted and these bits sent. -/
def sent {n : Nat} (bits : BitVec n) : SpiLine :=
  { cs := true, wire := bitsOf bits, enabled := true, cycle := false }

theorem test_meets_EncodeInvertsDecode : decode (.command 0xC0FF0000) = .ok (.spiReadWord 0xFF) := by decide

theorem test_meets_ReadFrameOnTheWire :
    someParams.wf = true ∧ Succeeds (running 3 3 [answer 0 2 [0x34, 0x12]]) .spiRdData ∧
    (nextReply (running 3 3 [answer 0 2 [0x34, 0x12]])).bytes = [0x34, 0x12] :=
  ⟨by decide, ⟨rfl, by decide⟩, rfl⟩

theorem test_meets_DataPackingRoundTrips :
    (running 2 4 [answer 0 2]).params.wf = true ∧
    Succeeds (running 2 4 [answer 0 2]) (.spiWrData (wordLow 0xFF00) (wordHigh 0xFF00)) ∧
    Succeeds (running 3 3 [answer 0 2 [0x00, 0xFF]]) .spiRdData ∧
    (nextReply (running 3 3 [answer 0 2 [0x00, 0xFF]])).bytes = [0x00, 0xFF] :=
  ⟨by decide, ⟨rfl, by decide⟩, ⟨rfl, by decide⟩, rfl⟩

theorem test_meets_EffectiveStatusOfATransfer :
    (nextReply (running 2 1 [answer 0 8])).returns = true ∧ Status.ioError ≠ .ok ∧ (8 : Nat) ≠ 9 ∧
    Status.ofCode (nextReply (polled 0 (answer 4 0))).code ≠ .ok ∧
    Status.ofCode (nextReply (polled 0 (answer 0 0))).code = .ok := by decide

theorem test_meets_CodesAndOptionWords : ∀ st : Status, (1 : Nat) ≠ st.code.toNat := by
  intro st
  cases st <;> decide

/-- Each phase of the two operations. -/
theorem test_meets_I2cPhasesMakeTheTabledRequests :
    (running 0 0 []).argOp = 0 ∧ (running 0 1 []).phase = 1 ∧ (running 0 2 []).phase = 2 ∧
    (running 1 0 []).argOp = 1 ∧ (running 1 1 []).phase = 1 ∧ (running 1 2 []).phase = 2 := by decide

/-- Each phase of the two operations, both sub-steps of step 5, a strobe and a release that return, and the
phases of the frame turn. -/
theorem test_meets_SpiPhasesMakeTheTabledRequests :
    (running 2 0 []).argOp = 2 ∧ (running 2 7 []).phase = 7 ∧ (running 3 3 []).argOp = 3 ∧
    (running 2 5 []).polling = false ∧ (polled 0 (answer 0 0)).polling = true ∧
    someParams.addrPacking = .prose53 ∧ (∃ t, spiStrobe (running 2 5 [answer 0 0]) = .next t) ∧
    (∃ t, spiRelease (running 2 6 [answer 0 0]) = .next t) ∧
    ((running 2 6 []).phase ≠ 0 ∧ (running 2 6 []).phase ≠ 1 ∧ (running 2 6 []).phase ≠ 2 ∧
      (running 2 6 []).phase ≠ 7) ∧
    ((running 3 2 []).phase ≠ 0 ∧ (running 3 2 []).phase ≠ 1) ∧ (running 1 2 []).argOp = 1 :=
  ⟨rfl, rfl, rfl, rfl, rfl, rfl, ⟨_, rfl⟩, ⟨_, rfl⟩, by decide, by decide, rfl⟩

/-- A call that succeeds with each choice of flags, and one that fails. -/
theorem test_meets_ChipSelectFollowsTheFlags :
    (nextReply (running 2 2 [answer 0 1])).returns = true ∧
    replyStatus (.spiWrOp 0) (answer 0 1) = .ok ∧ replyStatus (.spiWrLo 0) (answer 0 3) = .ok ∧
    replyStatus .spiRelease (answer 0 0) = .ok ∧ replyStatus .spiWe (answer 0 9) = .ok ∧
    replyStatus .spiWe (answer 4 9) ≠ .ok := by decide

theorem test_meets_SlaveFoldBitByBit :
    (∀ w, encode (.i2cPoll 0x54 0xA5) ≠ .command w) ∧
    ∃ t, exec (.i2cPoll 0x54 0xA5) { running 0 2 [answer 0 1] with argDev := 0x50, argLoc := 0x2A5 } =
      .next t :=
  ⟨fun _ h => (nomatch h), _, rfl⟩

theorem test_meets_StepRunsTheDecodedCommand :
    ({ ready with inputs := [.cmd 0x280010AB] } : State).inputs = .cmd 0x280010AB :: [] ∧
    ({ ready with inputs := [.cmd 0x280010AB] } : State).engine = .idle ∧
    decode (.command 0x280010AB) = .ok (.i2cWriteByte 0x50 0x010 0xAB) := by decide

/-- Each of the three clauses: no input left, a turn, a frame turn. -/
theorem test_meets_StepRunsTheDecodedPhase :
    (running 3 0 []).engine = .running ∧ decode (encode (.spiRdOp 0)) = .ok (.spiRdOp 0) ∧
    (running 3 0 []).inputs = [] ∧ sequence (running 3 0 []) = .word (encode (.spiRdOp 0)) ∧
    ({ running 3 0 [] with inputs := [.engine] } : State).inputs = .engine :: [] ∧
    decode (encode (.spiFrameRead 0)) = .ok (.spiFrameRead 0) ∧
    sequenceFrame { running 3 0 [] with inputs := [.engineFrame] } = .word (encode (.spiFrameRead 0)) := by
  decide

/-- A row of each width: a command, a nine-bit frame, an opcode byte. -/
theorem test_meets_PlacedWordRunsNext :
    decodeTableWord 32 0xC0050000 = some (.spiReadWord 5) ∧
    decodeTableWord 16 0b100110000 = some (.spiFrameWriteEnable 0) ∧
    engineSends (.spiFrameWriteEnable 0) = .spiFrameWriteEnable 0b1110 ∧
    decodeTableWord 16 0b100001111 = some (.spiFrameWriteDisable 15) ∧
    decodeTableWord 8 0xC5 = some (.spiRdOp 5) := by decide

/-- Each kind of move. -/
theorem test_meets_EnvironmentMoves :
    ready.engine = .idle ∧ ready.inputs = [] ∧
    ({ ready with inputs := [.handle .i2c false] } : State).inputs = .handle .i2c false :: [] ∧
    ({ ready with inputs := [.handle .spi true] } : State).inputs = .handle .spi true :: [] ∧
    ({ ready with inputs := [.cycleEnds .i2c] } : State).inputs = .cycleEnds .i2c :: [] ∧
    ({ ready with inputs := [.cycleEnds .spi] } : State).inputs = .cycleEnds .spi :: [] ∧
    ({ running 2 3 [] with inputs := [.reset ready.i2cLine ready.spiLine] } : State).inputs =
      .reset ready.i2cLine ready.spiLine :: [] := ⟨rfl, rfl, rfl, rfl, rfl, rfl, rfl⟩

/-- One bit of a must-be-zero field set. -/
theorem test_meets_IllegalCommandReportsInvalidParameter :
    ({ ready with inputs := [.cmd 0x81000000] } : State).inputs = .cmd 0x81000000 :: [] ∧
    ready.engine = .idle ∧
    0x81000000#32 &&& 0xC0780000#32 ≠ 0x00000000#32 ∧ 0x81000000#32 &&& 0xC07800FF#32 ≠ 0x40000000#32 ∧
    0x81000000#32 &&& 0xFF000000#32 ≠ 0x80000000#32 ∧ 0x81000000#32 &&& 0xFF00FFFF#32 ≠ 0xC0000000#32 := by
  decide

theorem test_meets_CommandWhileRunningIsIgnored :
    ({ running 2 3 [] with inputs := [.cmd 0xC0050000] } : State).inputs = .cmd 0xC0050000 :: [] ∧
    ({ running 2 3 [] with inputs := [.cmd 0xC0050000] } : State).engine = .running := by decide

/-- A word of each format. -/
theorem test_meets_AcceptedCommandLoadsOperands :
    ready.engine = .idle ∧ decode (.command 0x6B810000) = .ok (.i2cReadByte 0x57 0x100) ∧
    BitVec.getLsbD 0x6B810000#32 31 = false ∧
    decode (.command 0xC0FF0000) = .ok (.spiReadWord 0xFF) ∧ BitVec.getLsbD 0xC0FF0000#32 31 = true := by
  decide

/-- The last location in range. -/
theorem test_meets_HostCommandsAreAccepted :
    ready.i2cChValid = true ∧ ready.spiChValid = true ∧
    Instr.wf ready.params (.i2cWriteByte 0x50 0x7FF 0xAB) = true ∧
    Instr.wf ready.params (.i2cReadByte 0x50 0x7FF) = true := by decide

/-- Each bus without its handle. -/
theorem test_meets_NoHandleEndsWithNotOpened :
    ({ ready with i2cChValid := false } : State).i2cChValid = false ∧
    ({ ready with spiChValid := false } : State).spiChValid = false := ⟨rfl, rfl⟩

/-- The last location in range. -/
theorem test_meets_PrimaryWriteGoesOnToThePolls :
    (running 0 1 [answer 0 2]).params.wf = true ∧
    locationInRange { running 0 1 [answer 0 2] with argLoc := 0x7FF } = true ∧
    Succeeds { running 0 1 [answer 0 2] with argLoc := 0x7FF } (.i2cPrimary 0x5E 0xFF 0xAB) :=
  ⟨by decide, by decide, rfl, by decide⟩

/-- Under both values of `I2C_PRIMARY_ABORT`. -/
theorem test_meets_FailedPrimaryWrite :
    FailsWith (running 0 1 [answer 4 0]) (.i2cPrimary 0x50 0x10 0xAB) .ioError ∧
    (running 0 1 [answer 4 0]).params.i2cPrimaryAbort = true ∧
    FailsWith { running 0 1 [answer 0 1] with params := { someParams with i2cPrimaryAbort := false } }
      (.i2cPrimary 0x50 0x10 0xAB) .other ∧
    Params.wf { someParams with i2cPrimaryAbort := false } = true ∧
    locationInRange (running 0 1 [answer 4 0]) = true :=
  ⟨⟨rfl, by decide, by decide⟩, rfl, ⟨rfl, by decide, by decide⟩, by decide, by decide⟩

/-- With a write in progress and with none. -/
theorem test_meets_AcknowledgedPollCommits :
    Succeeds { running 0 2 [answer 0 1] with i2cPending := some (i2cCell 0x50 0x10, 0xAB) }
      (.i2cPoll 0x50 0x10) ∧
    Succeeds (running 0 2 [answer 0 1]) (.i2cPoll 0x50 0x10) ∧ (running 0 2 []).i2cPending = none ∧
    someParams.wf = true ∧ locationInRange (running 0 2 [answer 0 1]) = true :=
  ⟨⟨rfl, by decide⟩, ⟨rfl, by decide⟩, rfl, by decide, by decide⟩

/-- The last poll but one, and the last. -/
theorem test_meets_FailedPollContinuesOrExhausts :
    FailsWith { running 0 2 [answer 2 0] with retry := 1 } (.i2cPoll 0x50 0x10) .deviceNotFound ∧
    ((1 : BitVec 8) + 1).toNat ≠ someParams.i2cRetryBudget ∧
    FailsWith { running 0 2 [answer 4 0] with retry := 2 } (.i2cPoll 0x50 0x10) .ioError ∧
    ((2 : BitVec 8) + 1).toNat = someParams.i2cRetryBudget ∧
    locationInRange (running 0 2 [answer 4 0]) = true :=
  ⟨⟨rfl, by decide, by decide⟩, by decide, ⟨rfl, by decide, by decide⟩, by decide, by decide⟩

theorem test_meets_I2cReadPhasesComplete :
    (running 1 1 [answer 0 1]).params.wf = true ∧
    Succeeds (running 1 1 [answer 0 1]) (.i2cSetup 0x50 0x10) ∧
    Succeeds (running 1 2 [answer 0 1 [0xAB]]) (.i2cRead 0x50) ∧
    locationInRange (running 1 1 [answer 0 1]) = true :=
  ⟨by decide, ⟨rfl, by decide⟩, ⟨rfl, by decide⟩, by decide⟩

theorem test_meets_FailedI2cReadPhaseAborts :
    FailsWith (running 1 1 [answer 2 0]) (.i2cSetup 0x50 0x10) .deviceNotFound ∧
    FailsWith (running 1 2 [answer 0 0]) (.i2cRead 0x50) .other ∧
    locationInRange (running 1 1 [answer 2 0]) = true :=
  ⟨⟨rfl, by decide, by decide⟩, ⟨rfl, by decide, by decide⟩, by decide⟩

/-- Every SPI phase. -/
theorem test_meets_SpiPhasesComplete :
    Succeeds (running 2 1 [answer 0 9]) .spiWe ∧ Succeeds (running 2 2 [answer 0 1]) (.spiWrOp 0x1F) ∧
    Succeeds (running 2 3 [answer 0 3]) (.spiWrLo 7) ∧
    Succeeds (running 2 4 [answer 0 2]) (.spiWrData 0x34 0x12) ∧ Succeeds (running 2 7 [answer 0 9]) .spiWd ∧
    Succeeds (running 3 1 [answer 0 1]) (.spiRdOp 0) ∧ Succeeds (running 3 2 [answer 0 4]) (.spiRdLo 0) ∧
    Succeeds (running 3 3 [answer 0 2]) .spiRdData ∧ someParams.wf = true :=
  ⟨⟨rfl, by decide⟩, ⟨rfl, by decide⟩, ⟨rfl, by decide⟩, ⟨rfl, by decide⟩, ⟨rfl, by decide⟩,
    ⟨rfl, by decide⟩, ⟨rfl, by decide⟩, ⟨rfl, by decide⟩, by decide⟩

/-- Every SPI phase: a status that is not `OK`, and a wrong size under `OK`. -/
theorem test_meets_SpiPhasesAbort :
    FailsWith (running 2 1 [answer 0 8]) .spiWe .other ∧
    FailsWith (running 2 2 [answer 2 0]) (.spiWrOp 0) .deviceNotFound ∧
    FailsWith (running 2 3 [answer 4 0]) (.spiWrLo 5) .ioError ∧
    FailsWith (running 2 4 [answer 5 2]) (.spiWrData 0x34 0x12) .insufficientResources ∧
    FailsWith (running 2 7 [answer 99 9]) .spiWd .other ∧
    FailsWith (running 3 1 [answer 3 0]) (.spiRdOp 0) .notOpened ∧
    FailsWith (running 3 2 [answer 0 3]) (.spiRdLo 5) .other ∧
    FailsWith (running 3 3 [answer 6 2]) .spiRdData .invalidParameter :=
  ⟨⟨rfl, by decide, by decide⟩, ⟨rfl, by decide, by decide⟩, ⟨rfl, by decide, by decide⟩,
    ⟨rfl, by decide, by decide⟩, ⟨rfl, by decide, by decide⟩, ⟨rfl, by decide, by decide⟩,
    ⟨rfl, by decide, by decide⟩, ⟨rfl, by decide, by decide⟩⟩

/-- Every clause: chip select as the phase needs it, the frame so far on the wire, the call good (the calls
of `test_meets_SpiPhasesComplete` are on a line with chip select deasserted). -/
theorem test_meets_SpiLineFollowsTheFlags :
    (running 2 1 [answer 0 9]).spiLine.cs = false ∧
    (∃ t, exec .spiWe (running 2 1 [answer 0 9]) = .next t) ∧
    (∃ t, exec (.spiWrOp 0x1F) (running 2 2 [answer 0 1]) = .next t) ∧
    (∃ t, exec (.spiRdOp 0) (running 3 1 [answer 0 1]) = .next t) ∧
    (∃ t, exec (.spiWrLo 7) (running 2 3 [answer 0 3]) = .next t) ∧
    (∃ t, exec (.spiRdLo 0) (running 3 2 [answer 0 4]) = .next t) ∧
    (sent (0b101#3 ++ 0xFF#8)).wire = bitsOf (0b101#3 ++ 0xFF#8) ∧
    Succeeds { running 2 4 [answer 0 2] with spiLine := sent (0b101#3 ++ 0xFF#8) } (.spiWrData 1 2) ∧
    (∃ t, exec (.spiWrData 1 2) { running 2 4 [answer 0 2] with spiLine := sent (0b101#3 ++ 0xFF#8) } =
      .next t) ∧
    (sent (0b110#3 ++ 0x05#8 ++ 0#1)).wire = bitsOf (0b110#3 ++ 0x05#8 ++ 0#1) ∧
    Succeeds { running 3 3 [answer 0 2] with spiLine := sent (0b110#3 ++ 0x05#8 ++ 0#1) } .spiRdData ∧
    (∃ t, exec .spiRdData { running 3 3 [answer 0 2] with spiLine := sent (0b110#3 ++ 0x05#8 ++ 0#1) } =
      .next t) ∧
    (settleSpi (running 2 7 [answer 0 9])).spiLine.cycle = false ∧
    (∃ t, exec .spiWd (running 2 7 [answer 0 9]) = .next t) :=
  ⟨rfl, ⟨_, rfl⟩, ⟨_, rfl⟩, ⟨_, rfl⟩, ⟨_, rfl⟩, ⟨_, rfl⟩, rfl, ⟨rfl, by decide⟩, ⟨_, rfl⟩, rfl,
    ⟨rfl, by decide⟩, ⟨_, rfl⟩, rfl, ⟨_, rfl⟩⟩

/-- Each clause: the strobe, the release, and either failing. -/
theorem test_meets_StrobeAndReleaseSteps :
    someParams.wf = true ∧ (running 2 5 [answer 0 0]).engine = .running ∧
    (running 2 5 [answer 0 0]).inputs = [] ∧ (running 2 5 [answer 0 0]).polling = false ∧
    Succeeds (running 2 5 [answer 0 0]) .spiStrobe ∧ (running 2 5 [answer 0 0]).spiLine.cs = false ∧
    Succeeds { running 2 6 [answer 0 0] with spiLine := sent 0#0 } .spiRelease ∧ (sent 0#0).wire = [] ∧
    FailsWith (running 2 5 [answer 0 1]) .spiStrobe .other ∧
    FailsWith (running 2 6 [answer 2 0]) .spiRelease .deviceNotFound :=
  ⟨by decide, rfl, rfl, rfl, ⟨rfl, by decide⟩, rfl, ⟨rfl, by decide⟩, rfl, ⟨rfl, by decide, by decide⟩,
    ⟨rfl, by decide, by decide⟩⟩

/-- Each clause: a failing call, a busy device on the last poll but one and on the last, a ready device
with a write in progress and chip select asserted, and one without. -/
theorem test_meets_BusyPollStep :
    (polled 0 (answer 0 0)).params.wf = true ∧ (polled 0 (answer 0 0)).engine = .running ∧
    (polled 0 (answer 0 0)).inputs = [] ∧ (polled 0 (answer 0 0)).argOp = 2 ∧
    (polled 0 (answer 0 0)).phase = 5 ∧ (polled 0 (answer 0 0)).polling = true ∧
    (nextReply (polled 0 (answer 4 0))).returns = true ∧
    Status.ofCode (nextReply (polled 0 (answer 4 0))).code ≠ .ok ∧
    (nextReply (polled 0 (answer 0 0 [] true))).busy = true ∧
    ((polled 0 (answer 0 0 [] true)).retry + 1).toNat < someParams.spiBusyBudget ∧
    someParams.spiBusyBudget ≤ ((polled 1 (answer 0 0 [] true)).retry + 1).toNat ∧
    Status.ofCode (nextReply (polled 1 (answer 0 0 [] true))).code = .ok ∧
    (nextReply { polled 1 (answer 0 0) with spiLine := sent 0#0, spiPending := some (5, 0x1234) }).busy =
      false ∧
    (sent 0#0).cs = true ∧ some (5, (0x1234 : DataWord)) = some ((5 : BitVec 8).toNat, 0x1234) ∧
    (polled 0 (answer 0 0)).spiLine.cs = false ∧ (polled 0 (answer 0 0)).spiPending = none := by decide

theorem test_meets_FramesAreTheirTransfers :
    (∃ t, exec (.spiWrOp (hi5 0x05)) (running 2 2 [answer 0 1, answer 0 3, answer 0 2]) = .next t ∧
      Succeeds t (.spiWrLo (lo3 0x05)) ∧ ∃ u, exec (.spiWrLo (lo3 0x05)) t = .next u) ∧
    FailsWith (running 2 2 [answer 2 0]) (.spiWrOp (hi5 0x05)) .deviceNotFound ∧
    (∃ t, exec (.spiRdOp (hi5 0x05)) (running 3 1 [answer 0 1, answer 4 0]) = .next t ∧
      FailsWith t (.spiRdLo (lo3 0x05)) .ioError ∧ ∃ u, exec (.spiRdLo (lo3 0x05)) t = .next u) :=
  ⟨⟨_, rfl, ⟨rfl, by decide⟩, _, rfl⟩, ⟨rfl, by decide, by decide⟩,
    ⟨_, rfl, ⟨rfl, by decide, by decide⟩, _, rfl⟩⟩

theorem test_meets_FramesComplete :
    someParams.wf = true ∧ Succeeds (running 2 1 [answer 0 9]) (.spiNineBits (0b10011#5 ++ 0#4)) ∧
    Succeeds (running 2 7 [answer 0 9]) (.spiNineBits (0b10000#5 ++ 0xF#4)) ∧
    (running 2 7 [answer 0 9]).spiLine.cs = false ∧
    (settleSpi (running 2 7 [answer 0 9])).spiLine.cycle = false ∧
    replyAt (running 2 2 [answer 0 1, answer 0 3, answer 0 2]) 0 = answer 0 1 ∧
    replyAt (running 2 2 [answer 0 1, answer 0 3, answer 0 2]) 1 = answer 0 3 ∧
    replyAt (running 2 2 [answer 0 1, answer 0 3, answer 0 2]) 2 = answer 0 2 ∧
    replyStatus (.spiWrOp (hi5 0xFF)) (answer 0 1) = .ok ∧ replyStatus (.spiWrLo (lo3 0xFF)) (answer 0 3) = .ok ∧
    replyStatus (.spiWrData 0 0) (answer 0 2) = .ok ∧ replyStatus (.spiRdOp (hi5 0)) (answer 0 1) = .ok ∧
    replyStatus (.spiRdLo (lo3 0)) (answer 0 4) = .ok ∧
    replyStatus .spiRdData (answer 0 2 [0x34, 0x12]) = .ok ∧ (answer 0 2 [0x34, 0x12]).bytes = [0x34, 0x12] :=
  ⟨by decide, ⟨rfl, by decide⟩, ⟨rfl, by decide⟩, rfl, rfl, rfl, rfl, rfl, by decide, by decide, by decide,
    by decide, by decide, by decide, rfl⟩

/-- A phase, the three moves without a row, a frame turn. -/
theorem test_meets_PhasesLeaveTheOperandsAlone :
    (∀ w, encode .spiWe ≠ .command w) ∧ (∃ t, exec .spiWe (running 2 1 [answer 0 9]) = .next t) ∧
    (running 2 5 [answer 0 0]).engine = .running ∧ (running 2 5 [answer 0 0]).inputs = [] ∧
    (∃ t, step (running 2 5 [answer 0 0]) = .next t) ∧ (∃ t, step (polled 0 (answer 0 0)) = .next t) ∧
    (∃ t, step { running 2 6 [answer 0 0] with inputs := [.engine] } = .next t) ∧
    ∃ t, step { running 3 0 [answer 0 1, answer 0 4, answer 0 2] with inputs := [.engineFrame] } =
      .next t :=
  ⟨fun _ h => (nomatch h), ⟨_, rfl⟩, rfl, rfl, ⟨_, rfl⟩, ⟨_, rfl⟩, ⟨_, rfl⟩, _, rfl⟩

/-- A primary write beside another cell; a poll while another cell is being written; a data phase whose
frame addresses another word. -/
theorem test_meets_DeviceArraysFrame :
    (∃ t, exec (.i2cPoll 0x50 0x10)
      { running 0 2 [answer 0 1] with i2cPending := some (i2cCell 0x50 0x10, 0xAB) } = .next t) ∧
    (∀ v : Byte, some (i2cCell 0x50 0x10, (0xAB : Byte)) ≠ some (i2cCell 0x50 0x11, v)) ∧
    csFits (.spiWrData 1 2) (sent (0b101#3 ++ 0xFF#8)).cs = true ∧
    (∃ t, exec (.spiWrData 1 2) { running 2 4 [answer 0 2] with spiLine := sent (0b101#3 ++ 0xFF#8) } =
      .next t) ∧
    frameWrites (.spiWrData 1 2) (sent (0b101#3 ++ 0xFF#8)) = some (255, 0x0201) ∧
    (∃ t, exec (.i2cPrimary 0x50 0x10 0xAB) (running 0 1 [answer 0 2]) = .next t) ∧
    (∀ d, Instr.i2cPrimary 0x50 0x10 0xAB ≠ .i2cPrimary 0x50 0x11 d) ∧
    locationInRange (running 0 1 [answer 0 2]) = true :=
  ⟨⟨_, rfl⟩, fun v h => by simp [i2cCell] at h, rfl, ⟨_, rfl⟩, by decide, ⟨_, rfl⟩,
    fun _ h => by simp at h, by decide⟩

theorem test_meets_TraceGrowsByTheCallsMade :
    ∃ t, exec (.spiFrameRead 5) (running 3 1 [answer 0 1, answer 0 4, answer 0 2]) = .next t := ⟨_, rfl⟩

theorem test_meets_EngineCallsAreWellFormed :
    ∃ t, step (running 0 2 [answer 0 1]) = .next t ∧ t.trace ≠ [] := ⟨_, rfl, by decide⟩

/-- A phase, and each of the three moves without a row. -/
theorem test_meets_HungCallHasNoNextState :
    (∀ w, encode .spiRdData ≠ .command w) ∧ (nextReply (running 3 3 [silence])).returns = false ∧
    (running 2 5 [silence]).engine = .running ∧ (running 2 5 [silence]).inputs = [] ∧
    sequence (running 2 5 [silence]) = .strobe ∧ sequence (polled 0 silence) = .isBusy ∧
    sequence (running 2 6 [silence]) = .release ∧ (nextReply (polled 0 silence)).returns = false :=
  ⟨fun _ h => (nomatch h), rfl, rfl, rfl, by decide, by decide, by decide, rfl⟩

/-- A whole operation to come: its command, the engine's turns, the answers. -/
def scripted (w : CommandWord) (turns : Nat) (replies : List Reply) : State :=
  { ready with inputs := .cmd w :: List.replicate turns .engine ++ [], replies := replies }

/-- Two failed polls, then the last allowed one: acknowledged. -/
theorem test_meets_I2cWriteEndsAtTheFirstAcknowledgedPoll :
    let fails := [answer 2 0, answer 2 0]
    let s := scripted (commandI 0 0x50 0x2A5 0x3C) (fails.length + 2) (answer 0 2 :: fails ++ answer 0 1 :: [])
    s.params.wf = true ∧ Instr.wf s.params (.i2cWriteByte 0x50 0x2A5 0x3C) = true ∧ s.engine = .idle ∧
    s.i2cChValid = true ∧ s.inputs = .cmd (commandI 0 0x50 0x2A5 0x3C) :: List.replicate (fails.length + 2) .engine ++ [] ∧
    s.replies = answer 0 2 :: fails ++ answer 0 1 :: [] ∧ fails.length < s.params.i2cRetryBudget ∧
    replyStatus (.i2cPrimary (slaveOf 0x50 0x2A5) (regOf 0x2A5) 0x3C) (answer 0 2) = .ok ∧
    (∀ a ∈ fails, a.returns = true ∧ replyStatus (.i2cPoll (slaveOf 0x50 0x2A5) (regOf 0x2A5)) a ≠ .ok) ∧
    replyStatus (.i2cPoll (slaveOf 0x50 0x2A5) (regOf 0x2A5)) (answer 0 1) = .ok := by decide

/-- Three failed polls of three. -/
theorem test_meets_I2cWriteExhaustsItsBudget :
    let fails := [answer 2 0, answer 2 0]
    let s := scripted (commandI 0 0x50 0x100 0x5A) (fails.length + 2) (answer 0 2 :: fails ++ answer 4 0 :: [])
    Instr.wf s.params (.i2cWriteByte 0x50 0x100 0x5A) = true ∧
    s.inputs = .cmd (commandI 0 0x50 0x100 0x5A) :: List.replicate (fails.length + 2) .engine ++ [] ∧
    s.replies = answer 0 2 :: fails ++ answer 4 0 :: [] ∧ fails.length + 1 = s.params.i2cRetryBudget ∧
    replyStatus (.i2cPrimary (slaveOf 0x50 0x100) (regOf 0x100) 0x5A) (answer 0 2) = .ok ∧
    (∀ a ∈ fails ++ [answer 4 0], a.returns = true ∧
      replyStatus (.i2cPoll (slaveOf 0x50 0x100) (regOf 0x100)) a ≠ .ok) := by decide

/-- The last location in range. -/
theorem test_meets_I2cReadReturnsTheByte :
    let s := scripted (commandI 1 0x50 0x7FF 0) 2 [answer 0 1, answer 0 1 [0x3C]]
    Instr.wf s.params (.i2cReadByte 0x50 0x7FF) = true ∧ s.inputs = .cmd (commandI 1 0x50 0x7FF 0) :: .engine :: .engine :: [] ∧
    s.replies = answer 0 1 :: answer 0 1 [0x3C] :: [] ∧ (answer 0 1 [0x3C]).bytes = [0x3C] ∧
    replyStatus (.i2cSetup (slaveOf 0x50 0x7FF) (regOf 0x7FF)) (answer 0 1) = .ok ∧
    replyStatus (.i2cRead (slaveOf 0x50 0x7FF)) (answer 0 1 [0x3C]) = .ok := by decide

/-- One busy poll of two, then a last one that finds the device busy still, or ready. -/
theorem test_meets_SpiWriteCompletes :
    let busy := [answer 0 0 [] true]
    let s (last : Reply) := scripted (commandS 2 0x05 0x1234) (busy.length + 8)
      (answer 0 9 :: answer 0 1 :: answer 0 3 :: answer 0 2 :: answer 0 0 :: busy ++
        last :: answer 0 0 :: answer 0 9 :: [])
    (s (answer 0 0)).inputs = .cmd (commandS 2 0x05 0x1234) :: List.replicate (busy.length + 8) .engine ++ [] ∧
    (s (answer 0 0)).spiChValid = true ∧ (s (answer 0 0)).spiLine.cs = false ∧
    replyStatus .spiWe (answer 0 9) = .ok ∧
    replyStatus (.spiWrOp (writeHigh .prose53 0x05)) (answer 0 1) = .ok ∧
    replyStatus (.spiWrLo (writeLow .prose53 0x05)) (answer 0 3) = .ok ∧
    replyStatus (.spiWrData (wordLow 0x1234) (wordHigh 0x1234)) (answer 0 2) = .ok ∧
    replyStatus .spiStrobe (answer 0 0) = .ok ∧ replyStatus .spiRelease (answer 0 0) = .ok ∧
    replyStatus .spiWd (answer 0 9) = .ok ∧
    (∀ a ∈ busy, a.returns = true ∧ Status.ofCode a.code = .ok ∧ a.busy = true) ∧
    busy.length < someParams.spiBusyBudget ∧ (answer 0 0).busy = false ∧
    (answer 0 0 [] true).busy = true ∧ busy.length + 1 = someParams.spiBusyBudget := by decide

theorem test_meets_SpiReadReturnsTheWord :
    let s := scripted (commandS 3 0x05 0) 3 [answer 0 1, answer 0 4, answer 0 2 [0x34, 0x12]]
    s.inputs = .cmd (commandS 3 0x05 0) :: .engine :: .engine :: .engine :: [] ∧ s.spiChValid = true ∧
    s.spiLine.cs = false ∧ s.params.addrPacking = .prose53 ∧
    replyStatus (.spiRdOp (readHigh .prose53 0x05)) (answer 0 1) = .ok ∧
    replyStatus (.spiRdLo (readLow .prose53 0x05)) (answer 0 4) = .ok ∧
    replyStatus .spiRdData (answer 0 2 [0x34, 0x12]) = .ok := by decide

/-- The state of 95 P1 with one failed poll, both operations to come. -/
def roundTrip : State :=
  { ready with
    inputs := .cmd (commandI 0 0x50 0x2A5 0x3C) :: List.replicate 3 .engine ++
      [.cmd (commandI 1 0x50 0x2A5 0), .engine, .engine]
    replies := [answer 0 2, answer 2 0, answer 0 1, answer 0 1, answer 0 1 [0x3C]] }

theorem test_meets_I2cRoundTrip :
    roundTrip.params.wf = true ∧ roundTrip.engine = .idle ∧ roundTrip.i2cChValid = true ∧
    Instr.wf roundTrip.params (.i2cWriteByte 0x50 0x2A5 0x3C) = true ∧
    Instr.wf roundTrip.params (.i2cReadByte 0x50 0x2A5) = true ∧
    ∃ u, Sys2Proof.core.run 4 roundTrip = .next u ∧
      readI2c u (slaveOf 0x50 0x2A5) (regOf 0x2A5) = some 0x3C :=
  ⟨by decide, rfl, rfl, by decide, by decide, _, rfl, by decide⟩

/-- The invariant of a state whose devices hold no write in progress, from its decidable parts. -/
theorem inv_of (s : State)
    (h : s.params.wf = true ∧ s.fb.length = s.params.fbCap ∧ memWf s = true)
    (hi : s.i2cPending = none) (hs : s.spiPending = none) (ho : OperandInv s) (hq : SequencerInv s)
    (hr : ResultInv s) : Inv s :=
  And.intro
    (And.intro h.1 (And.intro h.2.1 (And.intro h.2.2
      (And.intro (by intro p e; rw [hi] at e; cases e) (by intro p e; rw [hs] at e; cases e)))))
    (And.intro ho (And.intro hq hr))

/-- A read at its first call, alone; a write at its polls, with as many answers as it may need, while the
host writes a command and the device's cycle ends. -/
theorem test_meets_EveryOperationEnds :
    (Inv (running 1 0 [answer 0 1, answer 0 1]) ∧ (running 1 0 []).engine = .running ∧
      (running 1 0 []).inputs = [] ∧
      ∀ n, n < callBound (running 1 0 []) → (replyAt (running 1 0 [answer 0 1, answer 0 1]) n).returns = true) ∧
    let s := { running 0 2 (List.replicate 4 (answer 2 0)) with
      inputs := [.cmd 0xC0050000, .engineFrame, .cycleEnds .i2c] }
    Inv s ∧ s.engine = .running ∧ (∀ l p, .reset l p ∉ s.inputs) ∧
      ∀ n, n < callBound s → (replyAt s n).returns = true := by
  refine ⟨⟨inv_of _ (by decide) rfl rfl ?_ ?_ ?_, rfl, rfl, by decide⟩,
    inv_of _ (by decide) rfl rfl ?_ ?_ ?_, rfl, by simp, by decide⟩
  all_goals first
    | (unfold OperandInv; decide)
    | (unfold SequencerInv; decide)
    | (unfold ResultInv; decide)

/-- A busy poll that is not the last. -/
theorem test_meets_StepKeepsInv :
    Inv (polled 0 (answer 0 0 [] true)) ∧ ∃ t, step (polled 0 (answer 0 0 [] true)) = .next t := by
  refine ⟨inv_of _ (by decide) rfl rfl ?_ ?_ ?_, _, rfl⟩
  · unfold OperandInv; decide
  · unfold SequencerInv; decide
  · unfold ResultInv; decide

/-- One call on a turn; three on a frame turn. -/
theorem test_meets_OnlyAHungCallStopsTheMachine :
    Inv (polled 1 (answer 0 0)) ∧ (nextReply (polled 1 (answer 0 0))).returns = true ∧
    (∀ rest, (polled 1 (answer 0 0)).inputs ≠ .engineFrame :: rest) ∧
    Inv { running 3 0 (List.replicate 3 (answer 0 1)) with inputs := [.engineFrame] } ∧
    ∀ n, n < 3 → (replyAt { running 3 0 (List.replicate 3 (answer 0 1)) with
      inputs := [.engineFrame] } n).returns = true := by
  refine ⟨inv_of _ (by decide) rfl rfl ?_ ?_ ?_, rfl, fun _ h => (nomatch h),
    inv_of _ (by decide) rfl rfl ?_ ?_ ?_, by decide⟩
  all_goals first
    | (unfold OperandInv; decide)
    | (unfold SequencerInv; decide)
    | (unfold ResultInv; decide)

/-- A poll that ends its operation, one that does not, and a command without a handle. -/
theorem test_meets_StatusIsTheLastCallsVerbatim :
    (∃ t, step { running 0 2 [answer 4 0] with retry := 2 } = .next t ∧ t.engine = .idle) ∧
    (∃ t, step (running 0 2 [answer 4 0]) = .next t ∧ t.engine = .running) ∧
    (∃ t, step { ready with spiChValid := false, inputs := [.cmd 0xC0050000] } = .next t ∧
      t.resStatus = Status.notOpened.code) ∧
    (∀ l p rest, ({ running 0 2 [answer 4 0] with retry := 2 } : State).inputs ≠ .reset l p :: rest) :=
  ⟨⟨_, rfl, rfl⟩, ⟨_, rfl, rfl⟩, ⟨_, rfl, rfl⟩, fun _ _ _ h => nomatch h⟩

theorem test_meets_NothingIsFatal :
    Inv (running 3 2 [answer 4 0]) ∧
    (∃ t, step (running 3 2 [answer 4 0]) = .next t ∧ t.resDone = true ∧ t.resStatus ≠ Status.ok.code ∧
      handleOf (busOf (BitVec.extractLsb' 30 2 0xC02B0000#32)) t = true) ∧
    decode (.command 0xC02B0000) = .ok (.spiReadWord 0x2B) := by
  refine ⟨inv_of _ (by decide) rfl rfl ?_ ?_ ?_, ⟨_, rfl, rfl, by decide, rfl⟩, by decide⟩
  · unfold OperandInv; decide
  · unfold SequencerInv; decide
  · unfold ResultInv; decide

/-- Two states with a different chip-select level. -/
theorem test_meets_EngineDoesNotSeeTheDevices :
    engineView (running 2 2 [answer 0 1]) =
      engineView { running 2 2 [answer 0 1] with spiLine := sent 0xFF#8 } ∧
    running 2 2 [answer 0 1] ≠ { running 2 2 [answer 0 1] with spiLine := sent 0xFF#8 } := by
  refine ⟨rfl, fun h => ?_⟩
  have := congrArg (fun s => s.spiLine.cs) h
  cases this

/-- Two states with different bytes left in the buffer and different results, at the last call of a read. -/
theorem test_meets_EngineForgetsThePast :
    forgetPast (running 3 3 [answer 0 2 [1, 2]]) =
      forgetPast { running 3 3 [answer 0 2 [1, 2]] with fb := [0xDE, 0xAD], resData := 0xBEEF } ∧
    ∃ t, step (running 3 3 [answer 0 2 [1, 2]]) = .next t ∧ t.engine = .idle := ⟨rfl, _, rfl, rfl⟩

/-- The last call of a complete read, chip select asserted since its first; a whole read in one frame turn;
a command accepted with chip select deasserted. -/
theorem test_meets_ChipSelectDiscipline :
    (let s := { running 3 3 [answer 0 2 [1, 2]] with spiLine := sent 0b110000001010#12 };
      Inv s ∧ CsInv s ∧ s.engine = .running ∧ busOf s.argOp = .spi ∧
      ∃ t, step s = .next t ∧ t.engine = .idle ∧ t.resDone = true ∧ t.resStatus = Status.ok.code) ∧
    (let s := { running 3 0 [answer 0 1, answer 0 4, answer 0 2] with inputs := [.engineFrame] };
      Inv s ∧ CsInv s ∧ ∃ t, step s = .next t ∧ t.trace.length = 3) ∧
    (let s := { ready with inputs := [.cmd 0xC0050000] };
      Inv s ∧ CsInv s ∧ s.spiLine.cs = false ∧ ∃ t, step s = .next t ∧ t.engine = .running) := by
  refine ⟨⟨inv_of _ (by decide) rfl rfl ?_ ?_ ?_, fun _ _ => rfl, rfl, rfl, _, rfl, rfl, rfl, rfl⟩,
    ⟨inv_of _ (by decide) rfl rfl ?_ ?_ ?_, fun _ _ => rfl, _, rfl, rfl⟩,
    ⟨inv_of _ (by decide) rfl rfl ?_ ?_ ?_, fun h => (nomatch h), rfl, _, rfl, rfl⟩⟩
  all_goals first
    | (unfold OperandInv; decide)
    | (unfold SequencerInv; decide)
    | (unfold ResultInv; decide)

/-- Two states with different limits; the first location out of range. -/
theorem test_meets_LocationIsNotChecked :
    limitlessView (running 0 1 [answer 0 2]) = limitlessView { running 0 1 [answer 0 2] with
      params := { someParams with i2cLocLimit := 256 } } ∧
    locationInRange { running 0 1 [answer 0 2] with
      params := { someParams with i2cLocLimit := 256 }, argLoc := 256 } = false ∧
    ∃ t, exec (.i2cPrimary 0x50 0 0xAB) { running 0 1 [answer 0 2] with
      params := { someParams with i2cLocLimit := 256 }, argLoc := 256 } = .next t :=
  ⟨rfl, by decide, _, rfl⟩

end Sys2Proof.Tests
end

section
/-! SUPPORT. Bits in wire order, fields of a word, the command decoder as a table, the packing of SPI
addresses and data, what a step of a command does, and what no phase writes; with them the statements of
30_encoding. -/

namespace Sys2Proof

/-! ## Bits in wire order -/

@[simp] theorem length_bitsOf {n : Nat} (v : BitVec n) : (bitsOf v).length = n := by
  simp [bitsOf]

/-- A concatenation goes on the wire left part first. -/
theorem bitsOf_append {m n : Nat} (x : BitVec m) (y : BitVec n) :
    bitsOf (x ++ y) = bitsOf x ++ bitsOf y := by
  refine List.ext_getElem (by simp) fun i hi _ => ?_
  have hlt : i < m + n := by simpa using hi
  by_cases h : i < m
  · simp [bitsOf, BitVec.getMsbD_append, h]
  · simp [bitsOf, List.getElem_append, BitVec.getMsbD_append, h]

theorem take_bitsOf_append {m n : Nat} (x : BitVec m) (y : BitVec n) :
    (bitsOf (x ++ y)).take m = bitsOf x := by
  rw [bitsOf_append, List.take_left' (length_bitsOf x)]

theorem natOfBits_concat (bits : List Bool) (b : Bool) :
    natOfBits (bits ++ [b]) = 2 * natOfBits bits + b.toNat := by
  simp [natOfBits]

/-- The leading `k` bits, read as a number, are the value without its lower bits. -/
theorem natOfBits_leading {n : Nat} (v : BitVec n) (k : Nat) (hk : k ≤ n) :
    natOfBits ((List.range k).map v.getMsbD) = v.toNat >>> (n - k) := by
  induction k with
  | zero => simp [natOfBits, Nat.shiftRight_eq_div_pow, Nat.div_eq_of_lt v.isLt]
  | succ k ih =>
    have hbit : (v.getMsbD k).toNat = (v.toNat >>> (n - (k + 1))) % 2 := by
      have hk' : k < n := hk
      simp only [BitVec.getMsbD, hk', decide_true, Bool.true_and, BitVec.getLsbD]
      rw [Nat.testBit_eq_decide_div_mod_eq, Nat.shiftRight_eq_div_pow, Nat.sub_add_eq,
        Nat.sub_right_comm]
      rcases Nat.mod_two_eq_zero_or_one (v.toNat / 2 ^ (n - k - 1)) with h | h <;> simp [h]
    have hshift : v.toNat >>> (n - k) = v.toNat >>> (n - (k + 1)) / 2 := by
      rw [show n - k = n - (k + 1) + 1 by omega, Nat.shiftRight_succ]
    rw [List.range_succ, List.map_append, List.map_singleton, natOfBits_concat, ih (by omega), hbit,
      hshift]
    omega

/-- Reading a value's own bits gives it back. -/
@[simp] theorem ofBits_bitsOf {n : Nat} (v : BitVec n) : ofBits n (bitsOf v) = v := by
  have h := natOfBits_leading v n le_rfl
  rw [Nat.sub_self, Nat.shiftRight_zero] at h
  rw [ofBits, bitsOf, h, BitVec.ofNat_toNat, BitVec.setWidth_eq]

/-! ## Fields of a word -/

/-- Shifting the left part above the right one and joining them by "or" is concatenation. -/
theorem shiftLeft_or_eq_append {m n : Nat} (x : BitVec m) (y : BitVec n) :
    x.setWidth (m + n) <<< n ||| y.setWidth (m + n) = x ++ y := by
  rw [← BitVec.setWidth_append_eq_shiftLeft_setWidth_or, BitVec.setWidth_eq]

/-- The bits of the field of width `k` that begins at bit `lo`, as a mask. -/
def fieldMask (n lo k : Nat) : BitVec n :=
  (BitVec.allOnes k).setWidth n <<< lo

/-- Masked to one field, a word compares as the field does. -/
theorem and_fieldMask_eq_iff {n lo k : Nat} (h : lo + k ≤ n) (w : BitVec n) (v : BitVec k) :
    w &&& fieldMask n lo k = v.setWidth n <<< lo ↔ w.extractLsb' lo k = v := by
  constructor
  · intro e
    ext i hi
    have hb := congrArg (·.getLsbD (lo + i)) e
    simpa [fieldMask, hi, show lo + i < n by omega, show i < n by omega] using hb
  · rintro rfl
    refine BitVec.eq_of_getLsbD_eq fun i hi => ?_
    by_cases hlo : i < lo
    · simp [fieldMask, hlo]
    · simp [fieldMask, hlo, hi, show lo + (i - lo) = i by omega, Bool.and_comm]

/-- A word compares under two masks with no common bit where it compares under each. -/
theorem and_or_eq_or_iff {n : Nat} {m₁ m₂ v₁ v₂ : BitVec n} (hm : m₁ &&& m₂ = 0#n)
    (h₁ : v₁ &&& m₁ = v₁) (h₂ : v₂ &&& m₂ = v₂) (w : BitVec n) :
    w &&& (m₁ ||| m₂) = v₁ ||| v₂ ↔ w &&& m₁ = v₁ ∧ w &&& m₂ = v₂ := by
  simp only [BitVec.eq_of_getLsbD_eq_iff, BitVec.getLsbD_and, BitVec.getLsbD_or,
    BitVec.getLsbD_zero] at *
  rw [← forall₂_and]
  refine forall₂_congr fun i hi => ?_
  have hm := hm i hi
  have h₁ := h₁ i hi
  have h₂ := h₂ i hi
  grind

/-! ## The four rows of the command table (30_encoding R62) -/

section
variable (w : CommandWord)

theorem and_mask_i2cWriteByte_iff :
    w &&& 0xC0780000#32 = 0x00000000#32 ↔
      w.extractLsb' 30 2 = 0b00#2 ∧ w.extractLsb' 19 4 = 0#4 := by
  rw [show 0xC0780000#32 = fieldMask 32 30 2 ||| fieldMask 32 19 4 from rfl,
    show 0x00000000#32 = (0b00#2).setWidth 32 <<< 30 ||| (0#4).setWidth 32 <<< 19 from rfl,
    and_or_eq_or_iff rfl rfl rfl, and_fieldMask_eq_iff (by decide), and_fieldMask_eq_iff (by decide)]

theorem and_mask_i2cReadByte_iff :
    w &&& 0xC07800FF#32 = 0x40000000#32 ↔
      w.extractLsb' 30 2 = 0b01#2 ∧ w.extractLsb' 19 4 = 0#4 ∧ w.extractLsb' 0 8 = 0#8 := by
  rw [show 0xC07800FF#32 = fieldMask 32 30 2 ||| (fieldMask 32 19 4 ||| fieldMask 32 0 8) from rfl,
    show 0x40000000#32 = (0b01#2).setWidth 32 <<< 30 |||
      ((0#4).setWidth 32 <<< 19 ||| (0#8).setWidth 32 <<< 0) from rfl,
    and_or_eq_or_iff rfl rfl rfl, and_or_eq_or_iff rfl rfl rfl, and_fieldMask_eq_iff (by decide),
    and_fieldMask_eq_iff (by decide), and_fieldMask_eq_iff (by decide)]

theorem and_mask_spiWriteWord_iff :
    w &&& 0xFF000000#32 = 0x80000000#32 ↔
      w.extractLsb' 30 2 = 0b10#2 ∧ w.extractLsb' 24 6 = 0#6 := by
  rw [show 0xFF000000#32 = fieldMask 32 30 2 ||| fieldMask 32 24 6 from rfl,
    show 0x80000000#32 = (0b10#2).setWidth 32 <<< 30 ||| (0#6).setWidth 32 <<< 24 from rfl,
    and_or_eq_or_iff rfl rfl rfl, and_fieldMask_eq_iff (by decide), and_fieldMask_eq_iff (by decide)]

theorem and_mask_spiReadWord_iff :
    w &&& 0xFF00FFFF#32 = 0xC0000000#32 ↔
      w.extractLsb' 30 2 = 0b11#2 ∧ w.extractLsb' 24 6 = 0#6 ∧ w.extractLsb' 0 16 = 0#16 := by
  rw [show 0xFF00FFFF#32 = fieldMask 32 30 2 ||| (fieldMask 32 24 6 ||| fieldMask 32 0 16) from rfl,
    show 0xC0000000#32 = (0b11#2).setWidth 32 <<< 30 |||
      ((0#6).setWidth 32 <<< 24 ||| (0#16).setWidth 32 <<< 0) from rfl,
    and_or_eq_or_iff rfl rfl rfl, and_or_eq_or_iff rfl rfl rfl, and_fieldMask_eq_iff (by decide),
    and_fieldMask_eq_iff (by decide), and_fieldMask_eq_iff (by decide)]

/-- The command decoder as a table: the `op` bits choose the row, the must-be-zero fields say whether the
word is legal, the other fields are the operands. -/
theorem decodeCommand_eq_ok_iff (i : Instr) :
    decodeCommand w = .ok i ↔
      (w.extractLsb' 30 2 = 0b00#2 ∧ w.extractLsb' 19 4 = 0#4 ∧
        i = .i2cWriteByte (w.extractLsb' 23 7) (w.extractLsb' 8 11) (w.extractLsb' 0 8)) ∨
      (w.extractLsb' 30 2 = 0b01#2 ∧ w.extractLsb' 19 4 = 0#4 ∧ w.extractLsb' 0 8 = 0#8 ∧
        i = .i2cReadByte (w.extractLsb' 23 7) (w.extractLsb' 8 11)) ∨
      (w.extractLsb' 30 2 = 0b10#2 ∧ w.extractLsb' 24 6 = 0#6 ∧
        i = .spiWriteWord (w.extractLsb' 16 8) (w.extractLsb' 0 16)) ∨
      (w.extractLsb' 30 2 = 0b11#2 ∧ w.extractLsb' 24 6 = 0#6 ∧ w.extractLsb' 0 16 = 0#16 ∧
        i = .spiReadWord (w.extractLsb' 16 8)) := by
  simp only [decodeCommand, and_mask_i2cWriteByte_iff, and_mask_i2cReadByte_iff,
    and_mask_spiWriteWord_iff, and_mask_spiReadWord_iff]
  split_ifs with h₀ h₁ h₂ h₃
  · simp [h₀, eq_comm]
  · simp [h₁, eq_comm]
  · simp [h₂, eq_comm]
  · simp [h₃, eq_comm]
  · simp only [false_iff]
    grind

/-- A word that matches no row is illegal (30_encoding R63). -/
theorem decodeCommand_eq_error (h₀ : w &&& 0xC0780000#32 ≠ 0x00000000#32)
    (h₁ : w &&& 0xC07800FF#32 ≠ 0x40000000#32) (h₂ : w &&& 0xFF000000#32 ≠ 0x80000000#32)
    (h₃ : w &&& 0xFF00FFFF#32 ≠ 0xC0000000#32) : decodeCommand w = .error .illegalCommand := by
  rw [decodeCommand, if_neg h₀, if_neg h₁, if_neg h₂, if_neg h₃]

end

/-- Every value of the `op` bits has a legal word: the one with no other bit set. -/
theorem exists_legal_word (op : BitVec 2) :
    ∃ (w : CommandWord) (i : Instr), w.extractLsb' 30 2 = op ∧ decodeCommand w = .ok i := by
  have hop : op = 0b00#2 ∨ op = 0b01#2 ∨ op = 0b10#2 ∨ op = 0b11#2 := by bv_omega
  rcases hop with rfl | rfl | rfl | rfl
  · exact ⟨0x00000000#32, _, rfl, rfl⟩
  · exact ⟨0x40000000#32, _, rfl, rfl⟩
  · exact ⟨0x80000000#32, _, rfl, rfl⟩
  · exact ⟨0xC0000000#32, _, rfl, rfl⟩

/-- Settles O4, from the decoder read as a table. -/
theorem commandDecoderMatchesTheTable : Obligations.CommandDecoderMatchesTheTable := by
  refine ⟨fun w => ⟨?_, ?_, ?_, ?_, and_mask_i2cWriteByte_iff w, and_mask_i2cReadByte_iff w,
    and_mask_spiWriteWord_iff w, and_mask_spiReadWord_iff w⟩, exists_legal_word⟩
  -- of the table's four rows only the one with the same constructor can hold
  all_goals simp [decodeCommand_eq_ok_iff]

/-! ## The bits of a wire frame -/

theorem decodeWire_writeEnable (x : BitVec 4) :
    decodeWire (bitsOf (0b10011#5 ++ x)) = .ok (.spiFrameWriteEnable x) := by
  have hop : (0b10011#5 ++ x).extractLsb' 4 5 = 0b10011#5 := BitVec.extractLsb'_append_eq_left
  have hx : (0b10011#5 ++ x).extractLsb' 0 4 = x := BitVec.extractLsb'_append_eq_right
  simp [decodeWire, hop, hx]

theorem decodeWire_writeDisable (x : BitVec 4) :
    decodeWire (bitsOf (0b10000#5 ++ x)) = .ok (.spiFrameWriteDisable x) := by
  have hop : (0b10000#5 ++ x).extractLsb' 4 5 = 0b10000#5 := BitVec.extractLsb'_append_eq_left
  have hx : (0b10000#5 ++ x).extractLsb' 0 4 = x := BitVec.extractLsb'_append_eq_right
  simp [decodeWire, hop, hx]

/-- Settles O7: the two requests' fields are as written, and the decoder ignores the `x` bits. -/
theorem nineBitFramesOnTheWire : Obligations.NineBitFramesOnTheWire :=
  ⟨rfl, rfl, rfl, rfl, rfl, rfl, rfl, rfl, rfl, rfl, rfl, rfl,
    fun x => ⟨decodeWire_writeEnable x, decodeWire_writeDisable x⟩⟩

/-! ## The bits of an SPI phase's request -/

theorem bits_spiWrOp (a : BitVec 5) :
    (Request.spiWrOp a).bits = [true, false, true] ++ bitsOf a := by
  have hbyte : 0xA0#8 ||| a.setWidth 8 = 0b101#3 ++ a := shiftLeft_or_eq_append 0b101#3 a
  have hbits : bitsOf (0b101#3 ++ a) = [true, false, true] ++ bitsOf a := bitsOf_append _ _
  simp [Request.bits, hbyte, hbits]

theorem bits_spiRdOp (a : BitVec 5) :
    (Request.spiRdOp a).bits = [true, true, false] ++ bitsOf a := by
  have hbyte : 0xC0#8 ||| a.setWidth 8 = 0b110#3 ++ a := shiftLeft_or_eq_append 0b110#3 a
  have hbits : bitsOf (0b110#3 ++ a) = [true, true, false] ++ bitsOf a := bitsOf_append _ _
  simp [Request.bits, hbyte, hbits]

/-- Three bits left-packed into a byte. -/
theorem setWidth_shiftLeft_five (b : BitVec 3) : b.setWidth 8 <<< 5 = b ++ 0#5 := by
  simpa using shiftLeft_or_eq_append b 0#5

theorem bits_spiWrLo (b : BitVec 3) : (Request.spiWrLo b).bits = bitsOf b := by
  have hbits : (bitsOf (b ++ 0#5)).take 3 = bitsOf b := take_bitsOf_append b 0#5
  simp [Request.bits, setWidth_shiftLeft_five, hbits]

theorem bits_spiRdLo (b : BitVec 3) : (Request.spiRdLo b).bits = bitsOf b ++ [false] := by
  have hbits : bitsOf (b ++ 0#5) = bitsOf b ++ bitsOf 0#5 := bitsOf_append b 0#5
  have hzero : bitsOf 0#5 = [false] ++ bitsOf 0#4 := rfl
  rw [Request.bits]
  simp [setWidth_shiftLeft_five, hbits, hzero, List.take_append]

theorem bits_spiWrData (lo hi : Byte) :
    (Request.spiWrData lo hi).bits = bitsOf lo ++ bitsOf hi := by
  simp [Request.bits]

end Sys2Proof

namespace Sys2Proof.Machine

/-! ## Packing (30_encoding R80, R82) -/

theorem hi5_eq_extract (A : BitVec 8) : hi5 A = A.extractLsb' 3 5 := by
  ext i hi
  interval_cases i <;> simp [hi5]

theorem lo3_eq_extract (A : BitVec 8) : lo3 A = A.extractLsb' 0 3 := by
  ext i hi
  interval_cases i <;> simp [lo3]

/-- The two parts of an address under `PROSE_5_3` are the address. -/
theorem hi5_append_lo3 (A : BitVec 8) : hi5 A ++ lo3 A = A := by
  rw [hi5_eq_extract, lo3_eq_extract]
  exact (BitVec.extractLsb'_append_extractLsb'_eq_extractLsb' rfl).trans BitVec.extractLsb'_eq_self

theorem bitsOf_hi5_append_bitsOf_lo3 (A : BitVec 8) : bitsOf (hi5 A) ++ bitsOf (lo3 A) = bitsOf A := by
  rw [← bitsOf_append, hi5_append_lo3]

theorem wordLow_eq_extract (D : DataWord) : wordLow D = D.extractLsb' 0 8 := rfl

theorem wordHigh_eq_extract (D : DataWord) : wordHigh D = D.extractLsb' 8 8 := rfl

theorem joinWord_eq_append (lo hi : Byte) : joinWord lo hi = hi ++ lo :=
  shiftLeft_or_eq_append hi lo

/-- Packing a word and joining its bytes gives it back. -/
theorem joinWord_wordLow_wordHigh (D : DataWord) : joinWord (wordLow D) (wordHigh D) = D := by
  rw [joinWord_eq_append, wordLow_eq_extract, wordHigh_eq_extract]
  exact (BitVec.extractLsb'_append_extractLsb'_eq_extractLsb' rfl).trans BitVec.extractLsb'_eq_self

theorem wordLow_joinWord (lo hi : Byte) : wordLow (joinWord lo hi) = lo := by
  rw [joinWord_eq_append, wordLow_eq_extract]
  exact BitVec.extractLsb'_append_eq_right

theorem wordHigh_joinWord (lo hi : Byte) : wordHigh (joinWord lo hi) = hi := by
  rw [joinWord_eq_append, wordHigh_eq_extract]
  exact BitVec.extractLsb'_append_eq_left

/-- Settles O8: each transfer's bits, put together by `bitsOf_append`. -/
theorem writeFrameOnTheWire : Obligations.WriteFrameOnTheWire := by
  intro A D
  refine ⟨?_, ?_, fun _ => rfl, fun _ => rfl, fun _ => rfl⟩
  · rw [bits_spiWrOp, bits_spiWrLo, bits_spiWrData, ← wordLow_eq_extract, ← wordHigh_eq_extract,
      ← bitsOf_hi5_append_bitsOf_lo3 A]
    simp only [List.append_assoc]
    rfl
  · simp [bits_spiWrOp, bits_spiWrLo, bits_spiWrData]

/-! ## A phase whose call succeeds -/

theorem two_le_fbCap {p : Params} (h : p.wf = true) : 2 ≤ p.fbCap := by
  simp only [Params.wf, Bool.and_eq_true, decide_eq_true_eq] at h
  exact h.2

theorem callPhase_of_succeeds (k : BitVec 4) {r : Request} {s : State} (h : Succeeds s r) :
    callPhase k r s = .answered .ok (afterCall r (nextReply s) (phaseStart k r s)) := by
  obtain ⟨hreturns, hstatus⟩ := h
  rw [callPhase_returns k r s hreturns, hstatus]

theorem phaseStep_of_succeeds (k : BitVec 4) {r : Request} (fail : Status → State → State) {s : State}
    (h : Succeeds s r) :
    phaseStep k r fail s =
      .passed { afterCall r (nextReply s) (phaseStart k r s) with phase := k + 1 } := by
  simp [phaseStep, callPhase_of_succeeds k h]

/-- The frame buffer after a phase's call: the bytes sent or received, then zeros. -/
theorem fbByte_afterCall (k : BitVec 4) (r : Request) (s : State) (n : Nat)
    (hl : (leadOf r (nextReply s)).length ≤ s.params.fbCap) (hr : r.dir = .read → r.buf = []) :
    fbByte (afterCall r (nextReply s) (phaseStart k r s)) n = (leadOf r (nextReply s)).getD n 0 := by
  have hfb : (afterCall r (nextReply s) (phaseStart k r s)).fb =
      overlay (received r (nextReply s)) (phaseStart k r s).fb := by
    unfold afterCall
    split <;> rfl
  rw [fbByte, hfb, afterCall_fb k r s hl hr, phaseCalled_fb, getD_append_zeros]

/-- What a data phase that receives two bytes leaves in the buffer. -/
theorem leadOf_spiRdData (a : Reply) (x y : Byte) (h : a.bytes = [x, y]) :
    leadOf .spiRdData a = [x, y] := by
  simp [leadOf, received, Request.byteCount, h]

theorem exec_spiWrData_of_succeeds (lo hi : Byte) (s : State) (h : Succeeds s (.spiWrData lo hi)) :
    exec (.spiWrData lo hi) s = .next { afterCall (.spiWrData lo hi) (nextReply s)
      (phaseStart 4 (.spiWrData lo hi) s) with phase := 5 } :=
  congrArg flowOutcome (phaseStep_of_succeeds 4 failSpiWrite h)

/-- The read's data phase received `x`, then `y`: they lie in the buffer in that order and are joined in
the result. -/
theorem exec_spiRdData_of_succeeds (s : State) (x y : Byte) (hwf : s.params.wf = true)
    (h : Succeeds s .spiRdData) (hb : (nextReply s).bytes = [x, y]) :
    ∃ t, exec .spiRdData s = .next t ∧ fbByte t 0 = x ∧ fbByte t 1 = y ∧ t.resData = joinWord x y := by
  have hlead := leadOf_spiRdData (nextReply s) x y hb
  have hbyte := fun n => fbByte_afterCall 3 .spiRdData s n (by simpa [hlead] using two_le_fbCap hwf)
    fun _ => rfl
  have hx := hbyte 0
  have hy := hbyte 1
  rw [hlead] at hx hy
  have hexec : exec .spiRdData s = flowOutcome (readDataFlow s) := rfl
  rw [hexec, readDataFlow, callPhase_of_succeeds 3 h]
  exact ⟨_, rfl, hx, hy, congrArg₂ joinWord hx hy⟩

/-- Settles O9: the bits of the two sending transfers, and the buffer after the receiving one. -/
theorem readFrameOnTheWire : Obligations.ReadFrameOnTheWire := by
  refine ⟨fun A => ⟨?_, ?_, fun _ => rfl, fun _ => rfl, fun _ => rfl⟩, fun s x y hwf h hb => ?_⟩
  · rw [bits_spiRdOp, bits_spiRdLo, ← bitsOf_hi5_append_bitsOf_lo3 A]
    simp only [List.append_assoc]
    rfl
  · simp [bits_spiRdOp, bits_spiRdLo]
  · obtain ⟨t, hexec, hx, hy, -⟩ := exec_spiRdData_of_succeeds s x y hwf h hb
    exact ⟨t, hexec, hx, hy⟩

/-- Settles O10: the buffer after each data phase, and concatenation read both ways. -/
theorem dataPackingRoundTrips : Obligations.DataPackingRoundTrips := by
  refine ⟨fun s D hwf h => ?_, fun s x y hwf h hb => ?_, joinWord_wordLow_wordHigh,
    fun x y => ⟨wordLow_joinWord x y, wordHigh_joinWord x y⟩⟩
  · have hbyte := fun n => fbByte_afterCall 4 (.spiWrData (wordLow D) (wordHigh D)) s n
      (two_le_fbCap hwf) nofun
    exact ⟨_, exec_spiWrData_of_succeeds _ _ s h, hbyte 0, hbyte 1⟩
  · obtain ⟨t, hexec, -, -, hdata⟩ := exec_spiRdData_of_succeeds s x y hwf h hb
    exact ⟨t, hexec, hdata.trans (joinWord_eq_append x y), hdata⟩

/-! ## A command written while the engine is idle -/

theorem step_of_legal_command {s : State} {w : CommandWord} {rest : List Input} {i : Instr}
    (hin : s.inputs = .cmd w :: rest) (hidle : s.engine = .idle) (hdec : decode (.command w) = .ok i) :
    step s = exec i { s with inputs := rest } := by
  simp [step, fetch, hin, commandWrite, hidle, hdec]

theorem step_of_illegal_command {s : State} {w : CommandWord} {rest : List Input} {e : DecodeError}
    (hin : s.inputs = .cmd w :: rest) (hidle : s.engine = .idle)
    (hdec : decode (.command w) = .error e) :
    step s = .next (illegalCommand { s with inputs := rest }) := by
  simp [step, fetch, hin, commandWrite, hidle, hdec]

/-- Settles O20: a word of no row decodes to an error, which the step reports. -/
theorem illegalCommandReportsInvalidParameter : Obligations.IllegalCommandReportsInvalidParameter :=
  fun _ w _ hin hidle h₀ h₁ h₂ h₃ =>
    step_of_illegal_command hin hidle (decodeCommand_eq_error w h₀ h₁ h₂ h₃)

/-! ## The operand registers a command loads -/

/-- Accepted or ended for want of a handle, a command has loaded its operands. -/
theorem start_operands (bus : Bus) (op : BitVec 2) (dev : BitVec 7) (loc : BitVec 11) (addr : BitVec 8)
    (data : DataWord) (s : State) :
    (start bus op dev loc addr data s).argOp = op ∧ (start bus op dev loc addr data s).argDev = dev ∧
    (start bus op dev loc addr data s).argLoc = loc ∧
    (start bus op dev loc addr data s).argAddr = addr ∧
    (start bus op dev loc addr data s).argData = data := by
  rcases start_cases bus op dev loc addr data s with ⟨-, e⟩ | ⟨-, e⟩ <;> rw [e] <;>
    exact ⟨rfl, rfl, rfl, rfl, rfl⟩

/-- Bit 31 is the upper bit of `op`: it tells the two formats apart. -/
theorem getLsbD_31_eq_op (w : CommandWord) : w.getLsbD 31 = (w.extractLsb' 30 2).getLsbD 1 := by
  simp

/-- Settles O22: row by row of the decoder's table. -/
theorem acceptedCommandLoadsOperands : Obligations.AcceptedCommandLoadsOperands := by
  intro s w rest i hin hidle hdec
  rw [step_of_legal_command hin hidle hdec, getLsbD_31_eq_op]
  have hpad : (w.extractLsb' 0 8).setWidth 16 = 0#8 ++ w.extractLsb' 0 8 := by
    simpa using shiftLeft_or_eq_append 0#8 (w.extractLsb' 0 8)
  rcases (decodeCommand_eq_ok_iff w i).1 hdec with
    ⟨hop, -, rfl⟩ | ⟨hop, -, hz, rfl⟩ | ⟨hop, -, rfl⟩ | ⟨hop, -, hz, rfl⟩
  · exact ⟨_, rfl, by simp [start_operands, hop, hpad]⟩
  · exact ⟨_, rfl, by simp [start_operands, hop, hz]⟩
  · exact ⟨_, rfl, by simp [start_operands, hop]⟩
  · exact ⟨_, rfl, by simp [start_operands, hop, hz]⟩

/-! ## What no phase writes -/

/-- What a host command and the environment set and no phase does: the operand registers, the handle
inputs, the parameters and the moves to come. -/
def operandsOf (s : State) :
    BitVec 2 × BitVec 7 × BitVec 11 × BitVec 8 × DataWord × Bool × Bool × Params × List Input :=
  (s.argOp, s.argDev, s.argLoc, s.argAddr, s.argData, s.i2cChValid, s.spiChValid, s.params, s.inputs)

theorem operandsOf_afterCall (r : Request) (a : Reply) (s : State) :
    operandsOf (afterCall r a s) = operandsOf s := by
  unfold afterCall
  split <;> rfl

/-- However a phase's call is answered, it leaves the operands alone. -/
theorem operandsOf_callPhase {k : BitVec 4} {r : Request} {s t : State} {e : Status}
    (h : callPhase k r s = .answered e t) : operandsOf t = operandsOf s := by
  rcases callPhase_cases k r s with ⟨-, hc⟩ | ⟨-, hc⟩ <;> rw [hc] at h
  · cases h
  · cases h
    exact operandsOf_afterCall r (nextReply s) (phaseStart k r s)

/-- A flow from `s` leaves the operands alone. -/
def FlowKeepsOperands (s : State) (f : Flow) : Prop :=
  ∀ t, f = .stopped t ∨ f = .passed t → operandsOf t = operandsOf s

theorem phaseStep_keepsOperands (k : BitVec 4) (r : Request) (fail : Status → State → State) (s : State)
    (hfail : ∀ e t, operandsOf (fail e t) = operandsOf t) :
    FlowKeepsOperands s (phaseStep k r fail s) := by
  intro t ht
  have hcall := operandsOf_afterCall r (nextReply s) (phaseStart k r s)
  rcases phaseStep_cases k r fail s with ⟨-, h⟩ | ⟨-, -, h⟩ | ⟨-, -, h⟩ <;> rw [h] at ht
  · simp at ht
  · obtain rfl : _ = t := by simpa using ht
    exact hcall
  · obtain rfl : _ = t := by simpa using ht
    exact (hfail _ _).trans hcall

theorem andThen_keepsOperands {s : State} {f : Flow} {next : State → Flow}
    (hf : FlowKeepsOperands s f) (hnext : ∀ t, FlowKeepsOperands t (next t)) :
    FlowKeepsOperands s (andThen f next) := by
  intro t ht
  rcases andThen_cases f next with ⟨-, h⟩ | ⟨u, hu, h⟩ | ⟨u, hu, h⟩ <;> rw [h] at ht
  · simp at ht
  · exact hf t (.inl (by simpa [hu] using ht))
  · exact (hnext u t ht).trans (hf u (.inr hu))

theorem writeDisableFlow_keepsOperands (r : Request) (s : State) :
    FlowKeepsOperands s (writeDisableFlow r s) := by
  intro t ht
  unfold writeDisableFlow at ht
  split at ht
  · simp at ht
  · rename_i hc
    obtain rfl : _ = t := by simpa using ht
    rw [← operandsOf_callPhase hc]
    split <;> rfl

theorem readDataFlow_keepsOperands (s : State) : FlowKeepsOperands s (readDataFlow s) := by
  intro t ht
  unfold readDataFlow at ht
  split at ht
  · simp at ht
  · rename_i hc
    obtain rfl : _ = t := by simpa using ht
    rw [← operandsOf_callPhase hc]
    split <;> rfl

theorem flowOutcome_keepsOperands {s t : State} {f : Flow} (hf : FlowKeepsOperands s f)
    (h : flowOutcome f = .next t) : operandsOf t = operandsOf s :=
  hf t ((flowOutcome_next f t).1 h)

theorem execI2cPrimary_keepsOperands {slave : BitVec 7} {reg data : Byte} {s t : State}
    (h : execI2cPrimary slave reg data s = .next t) : operandsOf t = operandsOf s := by
  unfold execI2cPrimary at h
  split at h
  · cases h
  · rename_i hc
    rw [← operandsOf_callPhase hc]
    dsimp only at h
    split at h <;> cases h <;> rfl

theorem execI2cPoll_keepsOperands {slave : BitVec 7} {reg : Byte} {s t : State}
    (h : execI2cPoll slave reg s = .next t) : operandsOf t = operandsOf s := by
  unfold execI2cPoll at h
  split at h
  · cases h
  · rename_i hc
    rw [← operandsOf_callPhase hc]
    dsimp only at h
    split at h
    · cases h; rfl
    · split at h <;> cases h <;> rfl

theorem execI2cRead_keepsOperands {slave : BitVec 7} {s t : State}
    (h : execI2cRead slave s = .next t) : operandsOf t = operandsOf s := by
  unfold execI2cRead at h
  split at h
  · cases h
  · rename_i hc
    rw [← operandsOf_callPhase hc]
    split at h <;> cases h <;> rfl

/-- No phase and no frame writes an operand register, a handle input, a parameter or a move to come. -/
theorem exec_keepsOperands {i : Instr} {s t : State} (hi : ∀ w, encode i ≠ .command w)
    (h : exec i s = .next t) : operandsOf t = operandsOf s := by
  have habort : ∀ e u, operandsOf (abortRead e u) = operandsOf u := fun _ _ => rfl
  have hfail : ∀ e u, operandsOf (failSpiWrite e u) = operandsOf u := fun _ _ => rfl
  cases i with
  | i2cWriteByte | i2cReadByte | spiWriteWord | spiReadWord => exact absurd rfl (hi _)
  | i2cPrimary => exact execI2cPrimary_keepsOperands h
  | i2cPoll => exact execI2cPoll_keepsOperands h
  | i2cRead => exact execI2cRead_keepsOperands h
  | i2cSetup | spiRdOp | spiRdLo =>
    exact flowOutcome_keepsOperands (phaseStep_keepsOperands _ _ _ _ habort) h
  | spiWe | spiWrOp | spiWrLo | spiWrData | spiFrameWriteEnable =>
    exact flowOutcome_keepsOperands (phaseStep_keepsOperands _ _ _ _ hfail) h
  | spiWd | spiFrameWriteDisable => exact flowOutcome_keepsOperands (writeDisableFlow_keepsOperands _ _) h
  | spiRdData => exact flowOutcome_keepsOperands (readDataFlow_keepsOperands _) h
  | spiFrameWrite =>
    exact flowOutcome_keepsOperands (andThen_keepsOperands (phaseStep_keepsOperands _ _ _ _ hfail)
      fun _ => andThen_keepsOperands (phaseStep_keepsOperands _ _ _ _ hfail)
        fun _ => phaseStep_keepsOperands _ _ _ _ hfail) h
  | spiFrameRead =>
    exact flowOutcome_keepsOperands (andThen_keepsOperands (phaseStep_keepsOperands _ _ _ _ habort)
      fun _ => andThen_keepsOperands (phaseStep_keepsOperands _ _ _ _ habort)
        fun _ => readDataFlow_keepsOperands _) h

/-! ## The I2C address fold (30_encoding R70) -/

/-- Location bits 10:8, moved to bits 3:1 of a slave address. -/
theorem locationHigh_eq_append (loc : BitVec 11) :
    ((loc >>> 7) &&& 0x0E#11).setWidth 7 = 0#3 ++ loc.extractLsb' 8 3 ++ 0#1 := by
  refine BitVec.eq_of_getLsbD_eq fun i hi => ?_
  rw [BitVec.getLsbD_append, BitVec.getLsbD_append]
  interval_cases i <;> simp

theorem slaveOf_eq_or_append (dev : BitVec 7) (loc : BitVec 11) :
    slaveOf dev loc = dev ||| (0#3 ++ loc.extractLsb' 8 3 ++ 0#1) := by
  rw [slaveOf, locationHigh_eq_append]

theorem regOf_eq_extract (loc : BitVec 11) : regOf loc = loc.extractLsb' 0 8 := by
  ext i hi
  interval_cases i <;> simp [regOf]

theorem toNat_slaveOf (dev : BitVec 7) (loc : BitVec 11) :
    (slaveOf dev loc).toNat = dev.toNat ||| ((loc.toNat >>> 7) &&& 0x0E) := by
  have hlt : (loc.toNat >>> 7) &&& 0x0E < 2 ^ 7 := Nat.and_le_right.trans_lt (by decide)
  rw [slaveOf, BitVec.toNat_or, BitVec.toNat_setWidth, BitVec.toNat_and, BitVec.toNat_ushiftRight]
  exact congrArg _ (Nat.mod_eq_of_lt hlt)

theorem toNat_regOf (loc : BitVec 11) : (regOf loc).toNat = loc.toNat &&& 0xFF := by
  have hlt : loc.toNat &&& 0xFF < 2 ^ 8 := Nat.and_le_right.trans_lt (by decide)
  rw [regOf, BitVec.toNat_setWidth, BitVec.toNat_and]
  exact Nat.mod_eq_of_lt hlt

/-- Bit `i` of the slave address: bits 1 to 3 also hold the location's bits 8 to 10. -/
theorem getLsbD_slaveOf (dev : BitVec 7) (loc : BitVec 11) (i : Nat) (hi : i < 7) :
    (slaveOf dev loc).getLsbD i =
      (dev.getLsbD i || (decide (1 ≤ i ∧ i ≤ 3) && loc.getLsbD (i + 7))) := by
  rw [slaveOf]
  interval_cases i <;> simp

/-- Settles O5: the fold bit by bit, and the operands that no phase writes. -/
theorem slaveFoldBitByBit : Obligations.SlaveFoldBitByBit := by
  refine ⟨fun dev loc => ?_, fun _ => ⟨rfl, rfl⟩, fun i s t hi h => ?_⟩
  · refine ⟨toNat_slaveOf dev loc, toNat_regOf loc, slaveOf_eq_or_append dev loc, regOf_eq_extract loc,
      ?_, ?_, ?_, ?_, ?_⟩
    · simpa using getLsbD_slaveOf dev loc 0 (by decide)
    · simpa using getLsbD_slaveOf dev loc 1 (by decide)
    · simpa using getLsbD_slaveOf dev loc 2 (by decide)
    · simpa using getLsbD_slaveOf dev loc 3 (by decide)
    · refine BitVec.eq_of_getLsbD_eq fun j hj => ?_
      simp [hj, getLsbD_slaveOf dev loc (4 + j) (by omega)]
  · have hkeep := exec_keepsOperands hi h
    simp only [operandsOf, Prod.mk.injEq] at hkeep
    obtain ⟨-, hdev, hloc, -⟩ := hkeep
    exact ⟨congrArg₂ slaveOf hdev hloc, congrArg regOf hloc⟩

end Sys2Proof.Machine
end

section
/-! SUPPORT. The effective status case by case, and the outcomes of one ready-line poll; with them the
statement of 40_channel_primitives. -/

namespace Sys2Proof.Machine

/-! ## The effective status (40_channel_primitives R104) -/

theorem eff_of_ne_ok {st : Status} (moved size : Nat) (h : st ≠ .ok) : eff st moved size = st :=
  if_neg h

@[simp] theorem eff_ok_self (size : Nat) : eff .ok size size = .ok :=
  (eff_ok _ _ _).2 ⟨rfl, rfl⟩

theorem eff_ok_of_ne {moved size : Nat} (h : moved ≠ size) : eff .ok moved size = .other := by
  simp [eff, h]

/-! ## One ready-line poll (42_spi_engine R148) -/

/-- The state in which a poll that returned `OK` decides whether to go on: the call recorded and counted,
its `busy` kept as last observed. -/
def busySampled (a : Reply) (s : State) : State :=
  noteReady a.busy { afterIsBusy a s with busyLast := a.busy }

@[simp] theorem busySampled_engine (a : Reply) (s : State) : (busySampled a s).engine = s.engine := rfl
@[simp] theorem busySampled_busyLast (a : Reply) (s : State) : (busySampled a s).busyLast = a.busy := rfl

/-- A failing poll ends the operation with its status, whatever the other parts of the answer say. -/
theorem spiIsBusy_of_status_ne_ok {s : State} (hreturns : (nextReply s).returns = true)
    (hstatus : Status.ofCode (nextReply s).code ≠ .ok) :
    spiIsBusy s = .next (failSpiWrite (Status.ofCode (nextReply s).code)
      (afterIsBusy (nextReply s) s)) := by
  simp [spiIsBusy, hreturns, hstatus]

/-- A poll that returned `OK` goes on while the device is busy and the budget lasts, and otherwise leaves
the loop. -/
theorem spiIsBusy_of_status_ok {s : State} (hreturns : (nextReply s).returns = true)
    (hstatus : Status.ofCode (nextReply s).code = .ok) :
    spiIsBusy s = .next (if (nextReply s).busy ∧ (s.retry + 1).toNat < s.params.spiBusyBudget
      then busySampled (nextReply s) s
      else { busySampled (nextReply s) s with phase := 6, polling := false }) := by
  simp only [spiIsBusy, hreturns, hstatus, if_true, ne_eq, not_true_eq_false, if_false]
  exact (apply_ite _ _ _ _).symm

/-- Settles O11: the three cases of `eff`, the transfer that returns, and the poll split on its status. -/
theorem effectiveStatusOfATransfer : Obligations.EffectiveStatusOfATransfer := by
  refine ⟨fun st n size => ⟨eff_of_ne_ok n size, ?_, eff_ok_of_ne⟩,
    fun r s hreturns => ⟨_, xfer_returns r s hreturns⟩, fun s hreturns => ?_⟩
  · rintro rfl
    exact eff_ok_self n
  · by_cases hstatus : Status.ofCode (nextReply s).code = .ok
    · refine ⟨_, spiIsBusy_of_status_ok hreturns hstatus, fun hne => absurd hstatus hne, fun _ => ?_⟩
      split <;> exact ⟨busySampled_engine (nextReply s) s, busySampled_busyLast (nextReply s) s⟩
    · exact ⟨_, spiIsBusy_of_status_ne_ok hreturns hstatus, fun _ => ⟨rfl, rfl⟩,
        fun heq => absurd heq hstatus⟩

end Sys2Proof.Machine
end

section
/-! SUPPORT. What a step reports: the engine's activity, `RES_DONE`, `RES_STATUS` and the calls made. One
lemma for each shared operation, phase and move, and one that says everything a step can report; with them
the statements of 60_exceptions. -/

namespace Sys2Proof.Machine

/-! ## Going on and ending -/

/-- The part of the state by which a step reports: whether an operation runs, whether a result is there,
its status, and the calls made so far. -/
def reportOf (s : State) : EngineState × Bool × BitVec 8 × List Call :=
  (s.engine, s.resDone, s.resStatus, s.trace)

/-- The status by which the engine judges a call of the trace: the effective one of a transfer, the
channel's own of an `IsBusy` (60_exceptions R174, R177). -/
def callStatus : Call → Status
  | .xfer r st n _ => eff st n r.size
  | .isBusy st _ => st

/-- One call has been made, with this status, and nothing reported yet. -/
def CallMade (e : Status) (s t : State) : Prop :=
  ∃ call, callStatus call = e ∧
    reportOf t = (s.engine, s.resDone, s.resStatus, s.trace ++ [call])

/-- Calls may have been made; `RES_DONE`, `RES_STATUS` and the engine's activity are as they were. -/
def GoesOn (s t : State) : Prop :=
  ∃ calls, reportOf t = (s.engine, s.resDone, s.resStatus, s.trace ++ calls)

/-- The operation has ended with the status of the last call it made. -/
def EndsWithLastCall (s t : State) : Prop :=
  ∃ calls last, reportOf t = (.idle, true, (callStatus last).code, s.trace ++ calls ++ [last])

section

variable {s t u : State} {e : Status}

theorem GoesOn.of_reportOf_eq (h : reportOf t = reportOf s) : GoesOn s t :=
  ⟨[], by rw [h, List.append_nil]; rfl⟩

theorem GoesOn.engine (h : GoesOn s t) : t.engine = s.engine :=
  h.elim fun _ hreport => congrArg (·.1) hreport

theorem GoesOn.resDone (h : GoesOn s t) : t.resDone = s.resDone :=
  h.elim fun _ hreport => congrArg (·.2.1) hreport

theorem GoesOn.resStatus (h : GoesOn s t) : t.resStatus = s.resStatus :=
  h.elim fun _ hreport => congrArg (·.2.2.1) hreport

theorem EndsWithLastCall.engine (h : EndsWithLastCall s t) : t.engine = .idle :=
  h.elim fun _ h => h.elim fun _ hreport => congrArg (·.1) hreport

theorem EndsWithLastCall.exists_last (h : EndsWithLastCall s t) :
    ∃ calls last, t.trace = s.trace ++ calls ++ [last] ∧ t.resStatus = (callStatus last).code := by
  obtain ⟨calls, last, hreport⟩ := h
  exact ⟨calls, last, congrArg (·.2.2.2) hreport, congrArg (·.2.2.1) hreport⟩

theorem GoesOn.trans (hst : GoesOn s t) (htu : GoesOn t u) : GoesOn s u := by
  obtain ⟨calls, hst⟩ := hst
  obtain ⟨calls', htu⟩ := htu
  simp only [reportOf, Prod.mk.injEq] at hst
  obtain ⟨hengine, hdone, hstatus, htrace⟩ := hst
  exact ⟨calls ++ calls', by rw [htu, hengine, hdone, hstatus, htrace, List.append_assoc]⟩

theorem GoesOn.trans_ends (hst : GoesOn s t) (htu : EndsWithLastCall t u) : EndsWithLastCall s u := by
  obtain ⟨calls, hst⟩ := hst
  obtain ⟨calls', last, htu⟩ := htu
  simp only [reportOf, Prod.mk.injEq] at hst
  obtain ⟨-, -, -, htrace⟩ := hst
  exact ⟨calls ++ calls', last, by rw [htu, htrace, List.append_assoc s.trace]⟩

/-- After a call an operation that only sets its own registers goes on. -/
theorem CallMade.goesOn (h : CallMade e s t) (hu : reportOf u = reportOf t) : GoesOn s u := by
  obtain ⟨call, -, hreport⟩ := h
  exact ⟨[call], hu.trans hreport⟩

/-- After a call `finish` with the call's status ends the operation with it. -/
theorem CallMade.ends (h : CallMade e s t) {data : DataWord} {busy : Bool} {retries : BitVec 8}
    (hu : u.trace = t.trace) : EndsWithLastCall s (finish e data busy retries u) := by
  obtain ⟨call, rfl, hreport⟩ := h
  have htrace : t.trace = s.trace ++ [call] := congrArg (·.2.2.2) hreport
  exact ⟨[], call, by simp [reportOf, finish, hu, htrace]⟩

/-! ## Calls and flows -/

theorem reportOf_afterCall (r : Request) (a : Reply) (s : State) :
    reportOf (afterCall r a s) = (s.engine, s.resDone, s.resStatus, s.trace ++ [recordOf r a]) := by
  unfold afterCall
  split <;> rfl

/-- However a phase's call is answered, the trace's new entry has the status the engine tests. -/
theorem callMade_of_callPhase {k : BitVec 4} {r : Request} (h : callPhase k r s = .answered e t) :
    CallMade e s t := by
  rcases callPhase_cases k r s with ⟨-, hc⟩ | ⟨-, hc⟩ <;> rw [hc] at h
  · cases h
  · cases h
    exact ⟨recordOf r (nextReply s), rfl, reportOf_afterCall r (nextReply s) (phaseStart k r s)⟩

theorem callMade_afterIsBusy (a : Reply) (s : State) :
    CallMade (Status.ofCode a.code) s (afterIsBusy a s) :=
  ⟨_, rfl, rfl⟩

/-- A flow from `s` that stops has ended the operation with its last call; one that passes goes on. -/
def FlowReports (s : State) : Flow → Prop
  | .stuck => True
  | .stopped t => EndsWithLastCall s t
  | .passed t => GoesOn s t

theorem phaseStep_reports (k : BitVec 4) (r : Request) {fail : Status → State → State} (s : State)
    (hfail : ∀ e t, CallMade e s t → EndsWithLastCall s (fail e t)) :
    FlowReports s (phaseStep k r fail s) := by
  unfold phaseStep
  split
  · trivial
  · rename_i hc
    have hcall := callMade_of_callPhase hc
    split
    · exact hcall.goesOn rfl
    · exact hfail _ _ hcall

theorem FlowReports.after {f : Flow} (hst : GoesOn s t) (hf : FlowReports t f) : FlowReports s f := by
  cases f with
  | stuck => trivial
  | stopped u => exact hst.trans_ends hf
  | passed u => exact hst.trans hf

theorem andThen_reports {f : Flow} {next : State → Flow} (hf : FlowReports s f)
    (hnext : ∀ t, FlowReports t (next t)) : FlowReports s (andThen f next) := by
  cases f with
  | stuck => trivial
  | stopped t => exact hf
  | passed t => exact (hnext t).after hf

theorem writeDisableFlow_reports (r : Request) (s : State) : FlowReports s (writeDisableFlow r s) := by
  unfold writeDisableFlow
  split
  · trivial
  · rename_i hc
    have hcall := callMade_of_callPhase hc
    split
    · rename_i hok
      exact (hok ▸ hcall).ends rfl
    · exact hcall.ends rfl

theorem readDataFlow_reports (s : State) : FlowReports s (readDataFlow s) := by
  unfold readDataFlow
  split
  · trivial
  · rename_i hc
    have hcall := callMade_of_callPhase hc
    split
    · rename_i hok
      exact (hok ▸ hcall).ends rfl
    · exact hcall.ends rfl

/-! ## Every phase, frame and move -/

/-- A move from `s` that has a next state goes on or ends the operation with its last call. -/
def MoveReports (s : State) (o : Host.Outcome State Fault Refusal) : Prop :=
  ∀ t, o = .next t → GoesOn s t ∨ EndsWithLastCall s t

theorem flowOutcome_reports {f : Flow} (hf : FlowReports s f) : MoveReports s (flowOutcome f) := by
  intro t h
  rcases (flowOutcome_next f t).1 h with rfl | rfl
  · exact .inr hf
  · exact .inl hf

theorem execI2cPrimary_reports (slave : BitVec 7) (reg data : Byte) (s : State) :
    MoveReports s (execI2cPrimary slave reg data s) := by
  intro t h
  unfold execI2cPrimary at h
  split at h
  · cases h
  · rename_i hc
    have hcall := callMade_of_callPhase hc
    dsimp only at h
    split at h <;> cases h
    · exact .inr (hcall.ends rfl)
    · exact .inl (hcall.goesOn rfl)

theorem execI2cPoll_reports (slave : BitVec 7) (reg : Byte) (s : State) :
    MoveReports s (execI2cPoll slave reg s) := by
  intro t h
  unfold execI2cPoll at h
  split at h
  · cases h
  · rename_i hc
    have hcall := callMade_of_callPhase hc
    dsimp only at h
    split at h
    · rename_i hok
      cases h
      exact .inr ((hok ▸ hcall).ends rfl)
    · split at h <;> cases h
      · exact .inr (hcall.ends rfl)
      · exact .inl (hcall.goesOn rfl)

theorem execI2cRead_reports (slave : BitVec 7) (s : State) :
    MoveReports s (execI2cRead slave s) := by
  intro t h
  unfold execI2cRead at h
  split at h
  · cases h
  · rename_i hc
    have hcall := callMade_of_callPhase hc
    split at h <;> cases h
    · rename_i hok
      exact .inr ((hok ▸ hcall).ends rfl)
    · exact .inr (hcall.ends rfl)

/-- Every phase and every frame reports the status of a call it made, or nothing. -/
theorem exec_reports {i : Instr} (hi : ∀ w, encode i ≠ .command w) (s : State) :
    MoveReports s (exec i s) := by
  have habort : ∀ s e t, CallMade e s t → EndsWithLastCall s (abortRead e t) := fun _ _ _ h => h.ends rfl
  have hfail : ∀ s e t, CallMade e s t → EndsWithLastCall s (failSpiWrite e t) :=
    fun _ _ _ h => h.ends rfl
  cases i with
  | i2cWriteByte | i2cReadByte | spiWriteWord | spiReadWord => exact absurd rfl (hi _)
  | i2cPrimary => exact execI2cPrimary_reports _ _ _ s
  | i2cPoll => exact execI2cPoll_reports _ _ s
  | i2cRead => exact execI2cRead_reports _ s
  | i2cSetup | spiRdOp | spiRdLo => exact flowOutcome_reports (phaseStep_reports _ _ s (habort s))
  | spiWe | spiWrOp | spiWrLo | spiWrData | spiFrameWriteEnable =>
    exact flowOutcome_reports (phaseStep_reports _ _ s (hfail s))
  | spiWd | spiFrameWriteDisable => exact flowOutcome_reports (writeDisableFlow_reports _ s)
  | spiRdData => exact flowOutcome_reports (readDataFlow_reports s)
  | spiFrameWrite =>
    exact flowOutcome_reports (andThen_reports (phaseStep_reports _ _ s (hfail s))
      fun t => andThen_reports (phaseStep_reports _ _ t (hfail t))
        fun u => phaseStep_reports _ _ u (hfail u))
  | spiFrameRead =>
    exact flowOutcome_reports (andThen_reports (phaseStep_reports _ _ s (habort s))
      fun t => andThen_reports (phaseStep_reports _ _ t (habort t)) readDataFlow_reports)

theorem spiStrobe_reports (s : State) : MoveReports s (spiStrobe s) := by
  intro t h
  unfold spiStrobe at h
  split at h
  · cases h
  · rename_i hc
    have hcall := callMade_of_callPhase hc
    split at h <;> cases h
    · exact .inl (hcall.goesOn rfl)
    · exact .inr (hcall.ends rfl)

theorem spiIsBusy_reports (s : State) : MoveReports s (spiIsBusy s) := by
  intro t h
  have hcall := callMade_afterIsBusy (nextReply s) s
  by_cases hreturns : (nextReply s).returns = true
  · by_cases hstatus : Status.ofCode (nextReply s).code = .ok
    · rw [spiIsBusy_of_status_ok hreturns hstatus] at h
      cases h
      exact .inl (hcall.goesOn (by split <;> rfl))
    · rw [spiIsBusy_of_status_ne_ok hreturns hstatus] at h
      cases h
      exact .inr (hcall.ends rfl)
  · simp [spiIsBusy, hreturns] at h

theorem spiRelease_reports (s : State) : MoveReports s (spiRelease s) :=
  flowOutcome_reports (phaseStep_reports _ _ s fun _ _ h => h.ends rfl)

/-! ## Only a command word decodes to a host command -/

/-- A decoder's answer that is no host command. -/
def DecodesNoCommand (d : Except DecodeError Instr) : Prop :=
  ∀ i, d = .ok i → ∀ w, encode i ≠ .command w

@[simp] theorem decodesNoCommand_error (e : DecodeError) : DecodesNoCommand (.error e) :=
  nofun

@[simp] theorem decodesNoCommand_ok (i : Instr) :
    DecodesNoCommand (.ok i) ↔ ∀ w, encode i ≠ .command w := by
  simp [DecodesNoCommand]

@[simp] theorem decodesNoCommand_ite (c : Prop) [Decidable c] (d d' : Except DecodeError Instr) :
    DecodesNoCommand (if c then d else d') ↔
      (c → DecodesNoCommand d) ∧ (¬ c → DecodesNoCommand d') := by
  split_ifs with h <;> simp [h]

theorem decodeI2cRequest_noCommand (slave : BitVec 7) (r : Request) :
    DecodesNoCommand (decodeI2cRequest slave r) := by
  unfold decodeI2cRequest
  cases r.dir with
  | write => rcases r.buf with _ | ⟨x, _ | ⟨y, _ | ⟨z, rest⟩⟩⟩ <;> simp [encode]
  | read => cases r.buf <;> simp [encode]

theorem decodeSpiRequest_noCommand (r : Request) : DecodesNoCommand (decodeSpiRequest r) := by
  unfold decodeSpiRequest
  cases r.dir with
  | write => rcases r.buf with _ | ⟨x, _ | ⟨y, _ | ⟨z, rest⟩⟩⟩ <;> simp [encode]
  | read => cases r.buf <;> simp [encode]

/-- Only a command word decodes to a host command. -/
theorem decode_noCommand {e : Encoded} (he : ∀ w, e ≠ .command w) : DecodesNoCommand (decode e) := by
  cases e with
  | command w => exact absurd rfl (he w)
  | request r =>
    show DecodesNoCommand (decodeRequest r)
    unfold decodeRequest
    cases r.target <;> simp [decodeI2cRequest_noCommand, decodeSpiRequest_noCommand]
  | wire bits => simp [decode, decodeWire, encode]

/-! ## The engine's turn -/

theorem sequence_not_command (s : State) (w : CommandWord) : sequence s ≠ .word (.command w) := by
  unfold sequence i2cWriteMove i2cReadMove spiWriteMove spiReadMove
  split_ifs <;> simp

theorem sequenceFrame_not_command (s : State) (w : CommandWord) :
    sequenceFrame s ≠ .word (.command w) := by
  unfold sequenceFrame
  split_ifs <;> simp [encode, sequence_not_command]

/-- What comes of a fetch: `step` is this of `fetch`. -/
def outcomeOf : Fetched → Host.Outcome State Fault Refusal
  | .instr i s => exec i s
  | .moved o => o

theorem step_eq_outcomeOf (s : State) : step s = outcomeOf (fetch s) := by
  unfold step outcomeOf
  cases fetch s <;> rfl

theorem runWord_reports {e : Encoded} (he : ∀ w, e ≠ .command w) (s : State) :
    MoveReports s (outcomeOf (runWord e s)) := by
  unfold runWord
  split
  · rename_i i hdec
    exact exec_reports (decode_noCommand he i hdec) s
  · intro t h
    cases h

theorem engineTurn_reports {m : Move} (hm : ∀ w, m ≠ .word (.command w)) (hrun : s.engine = .running) :
    MoveReports s (outcomeOf (engineTurn m s)) := by
  simp only [engineTurn, hrun]
  cases m with
  | word e => exact runWord_reports (fun w he => hm w (congrArg Move.word he)) s
  | strobe => exact spiStrobe_reports s
  | isBusy => exact spiIsBusy_reports s
  | release => exact spiRelease_reports s
  | outOfTable =>
    intro t h
    cases h

/-! ## A host command without and with its handle -/

theorem start_of_handle {bus : Bus} (h : handleOf bus s = true) (op : BitVec 2) (dev : BitVec 7)
    (loc : BitVec 11) (addr : BitVec 8) (data : DataWord) :
    start bus op dev loc addr data s = accept op dev loc addr data s :=
  if_pos h

/-- Without its handle a command ends at once with `NotOpened` and an empty result; no call is made, and
the channels and the devices are as they were. -/
theorem start_of_no_handle {bus : Bus} (h : handleOf bus s = false) {op : BitVec 2} {dev : BitVec 7}
    {loc : BitVec 11} {addr : BitVec 8} {data : DataWord} (ht : start bus op dev loc addr data s = t) :
    t.resStatus = Status.notOpened.code ∧ t.resData = 0 ∧ t.resBusy = false ∧ t.resRetries = 0 ∧
      t.resDone = true ∧ t.engine = .idle ∧ t.trace = s.trace ∧ t.draws = s.draws ∧
      t.replies = s.replies ∧ SameI2c s t ∧ SameSpi s t := by
  have hend : start bus op dev loc addr data s =
      finish .notOpened 0 false 0 (accept op dev loc addr data s) := by
    simp [start, h]
  obtain rfl : _ = t := hend.symm.trans ht
  exact ⟨rfl, rfl, rfl, rfl, rfl, rfl, rfl, rfl, rfl, ⟨rfl, rfl, rfl⟩, rfl, rfl, rfl, rfl⟩

/-- Whatever a word decodes to, running it is `start` of the operation in its `op` bits on that
operation's bus. -/
theorem exec_of_decoded_command {w : CommandWord} {i : Instr} (hdec : decode (.command w) = .ok i) :
    ∃ dev loc addr data, ∀ s, exec i s =
      .next (start (busOf (w.extractLsb' 30 2)) (w.extractLsb' 30 2) dev loc addr data s) := by
  rcases (decodeCommand_eq_ok_iff w i).1 hdec with
    ⟨hop, -, rfl⟩ | ⟨hop, -, -, rfl⟩ | ⟨hop, -, rfl⟩ | ⟨hop, -, -, rfl⟩ <;> rw [hop]
  · exact ⟨_, _, _, _, fun _ => rfl⟩
  · exact ⟨_, _, _, _, fun _ => rfl⟩
  · exact ⟨_, _, _, _, fun _ => rfl⟩
  · exact ⟨_, _, _, _, fun _ => rfl⟩

/-! ## Everything a step can report -/

/-- Everything a step from `s` to `t` can report: nothing of its own, on a move of the environment or of
an idle engine; what reset leaves; what the start of a legal or an illegal command writes; or, where an
operation runs, what the engine's turn does. -/
inductive StepReport (s t : State) : Prop where
  | nothing (hreport : reportOf t = reportOf s)
  | reset (l : I2cLine) (p : SpiLine) (rest : List Input) (hin : s.inputs = .reset l p :: rest)
      (hidle : t.engine = .idle)
  | started (hidle : s.engine = .idle) (u : State) (hreport : reportOf u = reportOf s) (bus : Bus)
      (op : BitVec 2) (dev : BitVec 7) (loc : BitVec 11) (addr : BitVec 8) (data : DataWord)
      (ht : t = start bus op dev loc addr data u)
  | illegal (hidle : s.engine = .idle) (u : State) (hreport : reportOf u = reportOf s)
      (ht : t = illegalCommand u)
  | turn (hrun : s.engine = .running) (h : GoesOn s t ∨ EndsWithLastCall s t)

/-- A turn of the engine, taken with or without a move of the environment that gives it. -/
theorem engineTurn_stepReport {m : Move} (hm : ∀ w, m ≠ .word (.command w))
    (hreport : reportOf u = reportOf s) (h : outcomeOf (engineTurn m u) = .next t) :
    StepReport s t := by
  have hengine : u.engine = s.engine := congrArg (·.1) hreport
  cases hrun : s.engine with
  | idle =>
    simp only [engineTurn, hengine, hrun, outcomeOf, Host.Outcome.next.injEq] at h
    exact .nothing (h ▸ hreport)
  | running =>
    have hon : GoesOn s u := .of_reportOf_eq hreport
    exact .turn hrun ((engineTurn_reports hm (hengine.trans hrun) t h).imp hon.trans hon.trans_ends)

/-- A word written to `CMD` is ignored, started or reported as illegal. -/
theorem commandWrite_stepReport {w : CommandWord} (hreport : reportOf u = reportOf s)
    (h : outcomeOf (commandWrite w u) = .next t) : StepReport s t := by
  have hengine : u.engine = s.engine := congrArg (·.1) hreport
  unfold commandWrite at h
  split at h
  · cases h
    exact .nothing hreport
  · rename_i hidle
    split at h
    · rename_i hdec
      obtain ⟨dev, loc, addr, data, hexec⟩ := exec_of_decoded_command hdec
      rw [outcomeOf, hexec, Host.Outcome.next.injEq] at h
      exact .started (hengine ▸ hidle) u hreport _ _ dev loc addr data h.symm
    · cases h
      exact .illegal (hengine ▸ hidle) u hreport rfl

/-- What a step reports, move by move. -/
theorem step_stepReport (h : step s = .next t) : StepReport s t := by
  rw [step_eq_outcomeOf] at h
  unfold fetch at h
  split at h
  case h_1 => exact engineTurn_stepReport (sequence_not_command s) rfl h
  case h_2 rest _ =>
    exact engineTurn_stepReport (u := { s with inputs := rest }) (sequence_not_command s) rfl h
  case h_3 rest _ =>
    exact engineTurn_stepReport (u := { s with inputs := rest }) (sequenceFrame_not_command s) rfl h
  case h_4 w rest _ =>
    exact commandWrite_stepReport (u := { s with inputs := rest }) rfl h
  case h_5 bus valid rest _ =>
    cases h
    exact .nothing (by cases bus <;> rfl)
  case h_6 bus rest _ =>
    cases h
    exact .nothing (by cases bus <;> rfl)
  case h_7 l p rest hin =>
    cases h
    exact .reset l p rest hin rfl

/-- A command that is started keeps `RES_STATUS` where its handle is valid, and else writes `NotOpened`. -/
theorem resStatus_start (bus : Bus) (op : BitVec 2) (dev : BitVec 7) (loc : BitVec 11)
    (addr : BitVec 8) (data : DataWord) (s : State) :
    (start bus op dev loc addr data s).resStatus = s.resStatus ∨
    (start bus op dev loc addr data s).resStatus = Status.notOpened.code :=
  (start_cases bus op dev loc addr data s).imp (fun ⟨_, h⟩ => by rw [h]; rfl)
    fun ⟨_, h⟩ => by rw [h]; rfl

/-- A command that is started has a result only where it has ended. -/
theorem engine_start_of_resDone {bus : Bus} {op : BitVec 2} {dev : BitVec 7} {loc : BitVec 11}
    {addr : BitVec 8} {data : DataWord} (h : (start bus op dev loc addr data s).resDone = true) :
    (start bus op dev loc addr data s).engine = .idle := by
  rcases start_cases bus op dev loc addr data s with ⟨-, hs⟩ | ⟨-, hs⟩ <;> rw [hs] at h ⊢
  · cases h
  · rfl

/-- `RES_DONE` is 1 only where the engine is idle: a step that reports a result has ended the operation. -/
theorem engine_idle_of_step_resDone (hinv : s.engine = .running → s.resDone = false)
    (hstep : step s = .next t) (hdone : t.resDone = true) : t.engine = .idle := by
  have hidle_of_goesOn (hon : GoesOn s t) : t.engine = .idle := by
    rw [hon.engine]
    cases hengine : s.engine with
    | idle => rfl
    | running => cases (hinv hengine).symm.trans (hon.resDone.symm.trans hdone)
  cases step_stepReport hstep with
  | nothing hreport => exact hidle_of_goesOn (.of_reportOf_eq hreport)
  | reset _ _ _ _ hidle => exact hidle
  | started _ u _ bus op dev loc addr data ht =>
    subst ht
    exact engine_start_of_resDone hdone
  | illegal hidle u hreport ht =>
    subst ht
    exact (congrArg (·.1) hreport).trans hidle
  | turn _ h => exact h.elim hidle_of_goesOn EndsWithLastCall.engine

end

/-! ## The statements -/

/-- Settles O24: each of the four commands is `start` on its bus. -/
theorem noHandleEndsWithNotOpened : Obligations.NoHandleEndsWithNotOpened := by
  intro s dev loc data addr word i h
  rcases h with ⟨hi2c, rfl | rfl⟩ | ⟨hspi, rfl | rfl⟩
  · exact ⟨_, rfl, start_of_no_handle (bus := .i2c) hi2c rfl⟩
  · exact ⟨_, rfl, start_of_no_handle (bus := .i2c) hi2c rfl⟩
  · exact ⟨_, rfl, start_of_no_handle (bus := .spi) hspi rfl⟩
  · exact ⟨_, rfl, start_of_no_handle (bus := .spi) hspi rfl⟩

/-- Settles O54: what each kind of step reports, `StepReport` case by case. -/
theorem statusIsTheLastCallsVerbatim : Obligations.StatusIsTheLastCallsVerbatim := by
  intro s t hstep hreset
  cases step_stepReport hstep with
  | nothing hreport =>
    have hon : GoesOn s t := .of_reportOf_eq hreport
    refine ⟨fun hrun hidle => ?_, fun _ _ => hon.resStatus, fun _ => .inl hon.resStatus⟩
    cases hidle.symm.trans (hon.engine.trans hrun)
  | reset l p rest hin => exact absurd hin (hreset l p rest)
  | started hidle u hreport bus op dev loc addr data ht =>
    subst ht
    have hstatus : u.resStatus = s.resStatus := congrArg (·.2.2.1) hreport
    refine ⟨fun hrun => ?_, fun hrun => ?_, fun _ => ?_⟩
    · cases hidle.symm.trans hrun
    · cases hidle.symm.trans hrun
    · exact (resStatus_start bus op dev loc addr data u).imp (·.trans hstatus) .inl
  | illegal hidle u _ ht =>
    subst ht
    refine ⟨fun hrun => ?_, fun hrun => ?_, fun _ => .inr (.inr rfl)⟩
    · cases hidle.symm.trans hrun
    · cases hidle.symm.trans hrun
  | turn hrun h =>
    refine ⟨fun _ hidle => ?_, fun _ hrun' => ?_, fun hidle => ?_⟩
    · rcases h with hon | hends
      · cases hidle.symm.trans (hon.engine.trans hrun)
      · obtain ⟨calls, last, htrace, hstatus⟩ := hends.exists_last
        exact ⟨calls, last, htrace, by cases last <;> exact hstatus⟩
    · rcases h with hon | hends
      · exact hon.resStatus
      · cases hrun'.symm.trans hends.engine
    · cases hrun.symm.trans hidle

/-- Settles O55: a result leaves the engine idle, and an idle engine that has the handle accepts. -/
theorem nothingIsFatal : Obligations.NothingIsFatal := by
  rintro s t ⟨-, -, ⟨-, hrunning⟩, -⟩ hstep hdone -
  have hidle := engine_idle_of_step_resDone (fun hrun => (hrunning hrun).1) hstep hdone
  refine ⟨hidle, fun w i rest hdec hhandle => ?_⟩
  obtain ⟨dev, loc, addr, data, hexec⟩ := exec_of_decoded_command hdec
  have hnext := step_of_legal_command (s := { t with inputs := .cmd w :: rest }) rfl hidle hdec
  refine ⟨_, hnext.trans (hexec _), ?_⟩
  rw [start_of_handle (by exact hhandle)]
  exact ⟨rfl, rfl⟩

end Sys2Proof.Machine
end

section
/-! SUPPORT. A command written while an operation runs, with the statement of 70_reset R210. -/

namespace Sys2Proof.Machine

/-- The word is not decoded, so a legal and an illegal one are turned away alike. -/
theorem commandWrite_of_running (w : CommandWord) {s : State} (hrun : s.engine = .running) :
    commandWrite w s = .moved (.next s) := by
  rw [commandWrite, hrun]

/-- Settles O21: what is fetched is the write, and a running engine turns it away. -/
theorem commandWhileRunningIsIgnored : Obligations.CommandWhileRunningIsIgnored := by
  intro s w rest hin hrun
  have hfetch : fetch s = commandWrite w { s with inputs := rest } := by rw [fetch, hin]
  have hwrite := commandWrite_of_running w (s := { s with inputs := rest }) hrun
  rw [step, hfetch, hwrite]

end Sys2Proof.Machine
end

section
/-! SUPPORT. The decoders and the encoders of the three layers undo each other; with this the round trips of
30_encoding. -/

namespace Sys2Proof

/-! ## Fields of a concatenation -/

/-- A field above the right part of a concatenation lies in its left part. -/
theorem extractLsb'_append_left {m n lo k : Nat} (x : BitVec m) (y : BitVec n) (h : n ≤ lo) :
    (x ++ y).extractLsb' lo k = x.extractLsb' (lo - n) k :=
  BitVec.extractLsb'_append_eq_of_le h

/-- The middle one of three parts. -/
theorem extractLsb'_middle {m k n : Nat} (x : BitVec m) (v : BitVec k) (y : BitVec n) :
    (x ++ v ++ y).extractLsb' n k = v := by
  rw [extractLsb'_append_left _ _ le_rfl, Nat.sub_self]
  exact BitVec.extractLsb'_append_eq_right

/-- Two neighbouring fields of a word, put together. -/
theorem append_extractLsb' {n hi mid : Nat} (w : BitVec n) (lo k : Nat) (h : mid = lo + k) :
    w.extractLsb' mid hi ++ w.extractLsb' lo k = w.extractLsb' lo (hi + k) :=
  BitVec.extractLsb'_append_extractLsb'_eq_extractLsb' h

/-! ## Command words -/

/-- The fields of a word of format `HC-I`. -/
theorem extract_commandI (op : BitVec 2) (dev : BitVec 7) (loc : BitVec 11) (data : Byte) :
    (commandI op dev loc data).extractLsb' 30 2 = op ∧ (commandI op dev loc data).extractLsb' 23 7 = dev ∧
    (commandI op dev loc data).extractLsb' 19 4 = 0#4 ∧
    (commandI op dev loc data).extractLsb' 8 11 = loc ∧
    (commandI op dev loc data).extractLsb' 0 8 = data := by
  have hop : (op ++ dev ++ 0#4 ++ loc ++ data).extractLsb' 30 2 = op := by
    rw [extractLsb'_append_left _ _ (by decide), extractLsb'_append_left _ _ (by decide),
      extractLsb'_append_left _ _ (by decide)]
    exact BitVec.extractLsb'_append_eq_left
  have hdev : (op ++ dev ++ 0#4 ++ loc ++ data).extractLsb' 23 7 = dev := by
    rw [extractLsb'_append_left _ _ (by decide), extractLsb'_append_left _ _ (by decide)]
    exact extractLsb'_middle op dev 0#4
  have hzero : (op ++ dev ++ 0#4 ++ loc ++ data).extractLsb' 19 4 = 0#4 := by
    rw [extractLsb'_append_left _ _ (by decide)]
    exact extractLsb'_middle (op ++ dev) 0#4 loc
  exact ⟨hop, hdev, hzero, extractLsb'_middle (op ++ dev ++ 0#4) loc data,
    BitVec.extractLsb'_append_eq_right⟩

/-- The fields of a word of format `HC-S`. -/
theorem extract_commandS (op : BitVec 2) (addr : BitVec 8) (data : DataWord) :
    (commandS op addr data).extractLsb' 30 2 = op ∧ (commandS op addr data).extractLsb' 24 6 = 0#6 ∧
    (commandS op addr data).extractLsb' 16 8 = addr ∧ (commandS op addr data).extractLsb' 0 16 = data := by
  have hop : (op ++ 0#6 ++ addr ++ data).extractLsb' 30 2 = op := by
    rw [extractLsb'_append_left _ _ (by decide), extractLsb'_append_left _ _ (by decide)]
    exact BitVec.extractLsb'_append_eq_left
  have hzero : (op ++ 0#6 ++ addr ++ data).extractLsb' 24 6 = 0#6 := by
    rw [extractLsb'_append_left _ _ (by decide)]
    exact extractLsb'_middle op 0#6 addr
  exact ⟨hop, hzero, extractLsb'_middle (op ++ 0#6) addr data, BitVec.extractLsb'_append_eq_right⟩

/-- The word of each host command decodes to it. -/
theorem decodeCommand_encode_i2cWriteByte (dev : BitVec 7) (loc : BitVec 11) (data : Byte) :
    decodeCommand (commandI 0b00#2 dev loc data) = .ok (.i2cWriteByte dev loc data) := by
  simp [decodeCommand_eq_ok_iff, extract_commandI]

theorem decodeCommand_encode_i2cReadByte (dev : BitVec 7) (loc : BitVec 11) :
    decodeCommand (commandI 0b01#2 dev loc 0) = .ok (.i2cReadByte dev loc) := by
  simp [decodeCommand_eq_ok_iff, extract_commandI]

theorem decodeCommand_encode_spiWriteWord (addr : BitVec 8) (data : DataWord) :
    decodeCommand (commandS 0b10#2 addr data) = .ok (.spiWriteWord addr data) := by
  simp [decodeCommand_eq_ok_iff, extract_commandS]

theorem decodeCommand_encode_spiReadWord (addr : BitVec 8) :
    decodeCommand (commandS 0b11#2 addr 0) = .ok (.spiReadWord addr) := by
  simp [decodeCommand_eq_ok_iff, extract_commandS]

/-- A word of format `HC-I` is its fields. -/
theorem commandI_fields (w : CommandWord) (hz : w.extractLsb' 19 4 = 0#4) :
    commandI (w.extractLsb' 30 2) (w.extractLsb' 23 7) (w.extractLsb' 8 11) (w.extractLsb' 0 8) = w := by
  rw [commandI, ← hz, append_extractLsb' w 23 7 rfl, append_extractLsb' w 19 4 rfl,
    append_extractLsb' w 8 11 rfl, append_extractLsb' w 0 8 rfl]
  exact BitVec.extractLsb'_eq_self

/-- A word of format `HC-S` is its fields. -/
theorem commandS_fields (w : CommandWord) (hz : w.extractLsb' 24 6 = 0#6) :
    commandS (w.extractLsb' 30 2) (w.extractLsb' 16 8) (w.extractLsb' 0 16) = w := by
  rw [commandS, ← hz, append_extractLsb' w 24 6 rfl, append_extractLsb' w 16 8 rfl,
    append_extractLsb' w 0 16 rfl]
  exact BitVec.extractLsb'_eq_self

theorem encode_of_decodeCommand {w : CommandWord} {i : Instr} (h : decodeCommand w = .ok i) :
    encode i = .command w := by
  rcases (decodeCommand_eq_ok_iff w i).1 h with
    ⟨hop, hz, rfl⟩ | ⟨hop, hz, hdata, rfl⟩ | ⟨hop, hz, rfl⟩ | ⟨hop, hz, hdata, rfl⟩
  · simp only [encode, ← hop, commandI_fields w hz]
  · have hw := commandI_fields w hz
    rw [hdata] at hw
    exact congrArg Encoded.command (hop ▸ hw)
  · simp only [encode, ← hop, commandS_fields w hz]
  · have hw := commandS_fields w hz
    rw [hdata] at hw
    exact congrArg Encoded.command (hop ▸ hw)

/-! ## Wire frames -/

/-- One more bit on the wire is one more bit of the value, below the others. -/
theorem ofBits_concat (bits : List Bool) (b : Bool) :
    ofBits (bits.length + 1) (bits ++ [b]) = ofBits bits.length bits ++ BitVec.ofBool b := by
  refine BitVec.eq_of_toNat_eq ?_
  show _ = ((ofBits bits.length bits).concat b).toNat
  have hb : b.toNat < 2 := Bool.toNat_lt b
  rw [BitVec.toNat_concat, ofBits, ofBits, BitVec.toNat_ofNat, BitVec.toNat_ofNat, natOfBits_concat,
    Nat.pow_succ', Nat.mod_mul, Nat.mul_add_mod, Nat.mod_eq_of_lt hb, Nat.mul_add_div Nat.two_pos,
    Nat.div_eq_of_lt hb, Nat.add_zero, Nat.mul_comm, Nat.add_comm]

/-- The bits of the value a list of bits makes are that list. -/
theorem bitsOf_ofBits (bits : List Bool) : bitsOf (ofBits bits.length bits) = bits := by
  induction bits using List.reverseRecOn with
  | nil => rfl
  | append_singleton bits b ih =>
    have hb : bitsOf (BitVec.ofBool b) = [b] := by cases b <;> rfl
    have hlen : (bits ++ [b]).length = bits.length + 1 := by simp
    rw [hlen, ofBits_concat, bitsOf_append, ih, hb]

theorem bitsOf_ofBits_of_length {bits : List Bool} {n : Nat} (h : bits.length = n) :
    bitsOf (ofBits n bits) = bits :=
  h ▸ bitsOf_ofBits bits

/-- A value of nine bits is its opcode and the four bits that the device ignores. -/
theorem nineBits_fields (v : BitVec 9) : v.extractLsb' 4 5 ++ v.extractLsb' 0 4 = v :=
  (append_extractLsb' v 0 4 rfl).trans BitVec.extractLsb'_eq_self

theorem writeFrame_fields (v : BitVec 27) :
    v.extractLsb' 24 3 ++ v.extractLsb' 16 8 ++ v.extractLsb' 8 8 ++ v.extractLsb' 0 8 = v := by
  rw [append_extractLsb' v 16 8 rfl, append_extractLsb' v 8 8 rfl, append_extractLsb' v 0 8 rfl]
  exact BitVec.extractLsb'_eq_self

theorem readFrame_fields (v : BitVec 12) :
    v.extractLsb' 9 3 ++ v.extractLsb' 1 8 ++ v.extractLsb' 0 1 = v := by
  rw [append_extractLsb' v 1 8 rfl, append_extractLsb' v 0 1 rfl]
  exact BitVec.extractLsb'_eq_self

theorem decodeWire_write (a : BitVec 8) (lo hi : Byte) :
    decodeWire (bitsOf (0b101#3 ++ a ++ lo ++ hi)) = .ok (.spiFrameWrite a lo hi) := by
  have hop : (0b101#3 ++ a ++ lo ++ hi).extractLsb' 24 3 = 0b101#3 := by
    rw [extractLsb'_append_left _ _ (by decide), extractLsb'_append_left _ _ (by decide)]
    exact BitVec.extractLsb'_append_eq_left
  have ha : (0b101#3 ++ a ++ lo ++ hi).extractLsb' 16 8 = a := by
    rw [extractLsb'_append_left _ _ (by decide)]
    exact extractLsb'_middle 0b101#3 a lo
  have hlo : (0b101#3 ++ a ++ lo ++ hi).extractLsb' 8 8 = lo := extractLsb'_middle (0b101#3 ++ a) lo hi
  have hhi : (0b101#3 ++ a ++ lo ++ hi).extractLsb' 0 8 = hi := BitVec.extractLsb'_append_eq_right
  simp [decodeWire, hop, ha, hlo, hhi]

theorem decodeWire_read (a : BitVec 8) :
    decodeWire (bitsOf (0b110#3 ++ a ++ 0#1)) = .ok (.spiFrameRead a) := by
  have hop : (0b110#3 ++ a ++ 0#1).extractLsb' 9 3 = 0b110#3 := by
    rw [extractLsb'_append_left _ _ (by decide)]
    exact BitVec.extractLsb'_append_eq_left
  have ha : (0b110#3 ++ a ++ 0#1).extractLsb' 1 8 = a := extractLsb'_middle 0b110#3 a 0#1
  have hdummy : (0b110#3 ++ a ++ 0#1).extractLsb' 0 1 = 0#1 := BitVec.extractLsb'_append_eq_right
  simp [decodeWire, hop, ha, hdummy]

theorem encode_of_decodeWire {bits : List Bool} {i : Instr} (h : decodeWire bits = .ok i) :
    encode i = .wire bits := by
  simp only [decodeWire] at h
  split_ifs at h with h9 hen hdis h27 hwr h12 hrd <;> obtain rfl := Except.ok.inj h <;>
    refine congrArg Encoded.wire ?_
  · rw [← hen, nineBits_fields, bitsOf_ofBits_of_length h9]
  · rw [← hdis, nineBits_fields, bitsOf_ofBits_of_length h9]
  · rw [← hwr, writeFrame_fields, bitsOf_ofBits_of_length h27]
  · rw [← hrd.1, ← hrd.2, readFrame_fields, bitsOf_ofBits_of_length h12]

/-! ## Channel requests -/

theorem Request.ne_of_size {r r' : Request} (h : r.size ≠ r'.size) : r ≠ r' :=
  fun e => h (congrArg Request.size e)

theorem Request.ne_of_opts {r r' : Request} (h : r.opts ≠ r'.opts) : r ≠ r' :=
  fun e => h (congrArg Request.opts e)

theorem Request.ne_of_buf {r r' : Request} (h : r.buf ≠ r'.buf) : r ≠ r' :=
  fun e => h (congrArg Request.buf e)

/-- The opcode bits tell the first call of a read from that of a write. -/
theorem spiRdOp_ne_spiWrOp (a b : BitVec 5) : Request.spiRdOp a ≠ Request.spiWrOp b := by
  refine Request.ne_of_buf fun h => ?_
  have hbyte : 0xC0#8 ||| a.setWidth 8 = 0xA0#8 ||| b.setWidth 8 := by simpa using h
  have hbit := congrArg (·.getLsbD 5) hbyte
  simp at hbit

/-- An opcode byte gives back its five address bits. -/
theorem setWidth_opcode (op : BitVec 3) (a : BitVec 5) : (op ++ a).setWidth 5 = a := by
  rw [BitVec.setWidth_append]
  simp

/-- A left-packed byte gives back its three bits. -/
theorem extract_leftPacked (b : BitVec 3) : (b.setWidth 8 <<< 5).extractLsb' 5 3 = b := by
  rw [setWidth_shiftLeft_five]
  exact BitVec.extractLsb'_append_eq_left

theorem decodeRequest_i2cPrimary (slave : BitVec 7) (reg data : Byte) :
    decodeRequest (.i2cPrimary slave reg data) = .ok (.i2cPrimary slave reg data) := by
  simp [decodeRequest, decodeI2cRequest, Options.reserved]

theorem decodeRequest_i2cPoll (slave : BitVec 7) (reg : Byte) :
    decodeRequest (.i2cPoll slave reg) = .ok (.i2cPoll slave reg) := by
  simp [decodeRequest, decodeI2cRequest, Options.reserved]

theorem decodeRequest_i2cSetup (slave : BitVec 7) (reg : Byte) :
    decodeRequest (.i2cSetup slave reg) = .ok (.i2cSetup slave reg) := by
  have hpoll : Request.i2cSetup slave reg ≠ .i2cPoll slave reg := Request.ne_of_opts (by simp)
  simp [decodeRequest, decodeI2cRequest, Options.reserved, hpoll]

theorem decodeRequest_i2cRead (slave : BitVec 7) :
    decodeRequest (.i2cRead slave) = .ok (.i2cRead slave) := by
  simp [decodeRequest, decodeI2cRequest, Options.reserved]

theorem decodeRequest_spiWe : decodeRequest .spiWe = .ok .spiWe := rfl

theorem decodeRequest_spiWd : decodeRequest .spiWd = .ok .spiWd := rfl

theorem decodeRequest_spiRdData : decodeRequest .spiRdData = .ok .spiRdData := rfl

theorem decodeRequest_spiWrData (lo hi : Byte) :
    decodeRequest (.spiWrData lo hi) = .ok (.spiWrData lo hi) := by
  have hwe : Request.spiWrData lo hi ≠ .spiWe := Request.ne_of_size (by simp)
  have hwd : Request.spiWrData lo hi ≠ .spiWd := Request.ne_of_size (by simp)
  simp [decodeRequest, decodeSpiRequest, Options.reserved, hwe, hwd]

theorem decodeRequest_spiWrOp (a : BitVec 5) :
    decodeRequest (.spiWrOp a) = .ok (.spiWrOp a) := by
  have ha : (0xA0#8 ||| a.setWidth 8).setWidth 5 = a := by
    rw [show 0xA0#8 ||| a.setWidth 8 = 0b101#3 ++ a from shiftLeft_or_eq_append 0b101#3 a, setWidth_opcode]
  simp [decodeRequest, decodeSpiRequest, Options.reserved, ha]

theorem decodeRequest_spiRdOp (a : BitVec 5) :
    decodeRequest (.spiRdOp a) = .ok (.spiRdOp a) := by
  have ha : (0xC0#8 ||| a.setWidth 8).setWidth 5 = a := by
    rw [show 0xC0#8 ||| a.setWidth 8 = 0b110#3 ++ a from shiftLeft_or_eq_append 0b110#3 a, setWidth_opcode]
  simp [decodeRequest, decodeSpiRequest, Options.reserved, ha, spiRdOp_ne_spiWrOp]

theorem decodeRequest_spiWrLo (b : BitVec 3) :
    decodeRequest (.spiWrLo b) = .ok (.spiWrLo b) := by
  have hwr (a) : Request.spiWrLo b ≠ .spiWrOp a := Request.ne_of_size (by simp)
  have hrd (a) : Request.spiWrLo b ≠ .spiRdOp a := Request.ne_of_size (by simp)
  simp [decodeRequest, decodeSpiRequest, Options.reserved, hwr, hrd, extract_leftPacked]

theorem decodeRequest_spiRdLo (b : BitVec 3) :
    decodeRequest (.spiRdLo b) = .ok (.spiRdLo b) := by
  have hwr (a) : Request.spiRdLo b ≠ .spiWrOp a := Request.ne_of_size (by simp)
  have hrd (a) : Request.spiRdLo b ≠ .spiRdOp a := Request.ne_of_size (by simp)
  have hlo (c) : Request.spiRdLo b ≠ .spiWrLo c := Request.ne_of_size (by simp)
  simp [decodeRequest, decodeSpiRequest, Options.reserved, hwr, hrd, hlo, extract_leftPacked]

/-- A decoder's answer that is an error or an instruction encoded as `e`. -/
def DecodesOnly (e : Encoded) (d : Except DecodeError Instr) : Prop :=
  ∀ i, d = .ok i → encode i = e

@[simp] theorem decodesOnly_error (e : Encoded) (err : DecodeError) : DecodesOnly e (.error err) :=
  nofun

@[simp] theorem decodesOnly_ok (e : Encoded) (i : Instr) : DecodesOnly e (.ok i) ↔ encode i = e := by
  simp [DecodesOnly]

@[simp] theorem decodesOnly_ite (e : Encoded) (c : Prop) [Decidable c] (d d' : Except DecodeError Instr) :
    DecodesOnly e (if c then d else d') ↔ (c → DecodesOnly e d) ∧ (¬ c → DecodesOnly e d') := by
  split_ifs with h <;> simp [h]

/-- The decoder compares a request with the one it would encode, so it accepts no other. -/
theorem decodeI2cRequest_only (slave : BitVec 7) (r : Request) :
    DecodesOnly (.request r) (decodeI2cRequest slave r) := by
  unfold decodeI2cRequest
  cases r.dir with
  | write => rcases r.buf with _ | ⟨x, _ | ⟨y, _ | ⟨z, rest⟩⟩⟩ <;> simp +contextual [encode]
  | read => cases r.buf <;> simp +contextual [encode]

theorem decodeSpiRequest_only (r : Request) : DecodesOnly (.request r) (decodeSpiRequest r) := by
  unfold decodeSpiRequest
  cases r.dir with
  | write => rcases r.buf with _ | ⟨x, _ | ⟨y, _ | ⟨z, rest⟩⟩⟩ <;> simp +contextual [encode]
  | read => cases r.buf <;> simp +contextual [encode]

theorem encode_of_decodeRequest {r : Request} {i : Instr} (h : decodeRequest r = .ok i) :
    encode i = .request r := by
  unfold decodeRequest at h
  split_ifs at h
  split at h
  · exact decodeI2cRequest_only _ r i h
  · exact decodeSpiRequest_only r i h

/-! ## The statements -/

/-- Settles O1: row by row, at the layer the row is encoded at. -/
theorem decodeInvertsEncode : Obligations.DecodeInvertsEncode := by
  intro i
  cases i with
  | i2cWriteByte dev loc data => exact decodeCommand_encode_i2cWriteByte dev loc data
  | i2cReadByte dev loc => exact decodeCommand_encode_i2cReadByte dev loc
  | spiWriteWord addr data => exact decodeCommand_encode_spiWriteWord addr data
  | spiReadWord addr => exact decodeCommand_encode_spiReadWord addr
  | spiFrameWriteEnable x => exact decodeWire_writeEnable x
  | spiFrameWriteDisable x => exact decodeWire_writeDisable x
  | spiFrameWrite a lo hi => exact decodeWire_write a lo hi
  | spiFrameRead a => exact decodeWire_read a
  | spiWe => exact decodeRequest_spiWe
  | spiWrOp a => exact decodeRequest_spiWrOp a
  | spiWrLo b => exact decodeRequest_spiWrLo b
  | spiWrData lo hi => exact decodeRequest_spiWrData lo hi
  | spiWd => exact decodeRequest_spiWd
  | spiRdOp a => exact decodeRequest_spiRdOp a
  | spiRdLo b => exact decodeRequest_spiRdLo b
  | spiRdData => exact decodeRequest_spiRdData
  | i2cPrimary slave reg data => exact decodeRequest_i2cPrimary slave reg data
  | i2cPoll slave reg => exact decodeRequest_i2cPoll slave reg
  | i2cSetup slave reg => exact decodeRequest_i2cSetup slave reg
  | i2cRead slave => exact decodeRequest_i2cRead slave

/-- Settles O2: layer by layer. -/
theorem encodeInvertsDecode : Obligations.EncodeInvertsDecode := by
  intro e i h
  cases e with
  | command w => exact encode_of_decodeCommand h
  | request r => exact encode_of_decodeRequest h
  | wire bits => exact encode_of_decodeWire h

end Sys2Proof
end

section
/-! SUPPORT. The numbers of the address formulas, of statuses and options; the requests of the sequencer phase
by phase; chip select after a call: the remaining statements of 30_encoding and 40_channel_primitives. -/

namespace Sys2Proof

/-! ## Codes and option words (30_encoding R66, R69) -/

theorem Status.ofCode_code (st : Status) : Status.ofCode st.code.toNat = st := by
  cases st <;> rfl

/-- A code that is no status's own is `Other` (93 U18). -/
theorem Status.ofCode_eq_other {n : Nat} (h : ∀ st : Status, n ≠ st.code.toNat) :
    Status.ofCode n = .other := by
  have hne (st : Status) (m : Nat) (hm : st.code.toNat = m) : n ≠ m := hm ▸ h st
  simp [Status.ofCode, hne .ok 0 rfl, hne .deviceNotFound 2 rfl, hne .notOpened 3 rfl, hne .ioError 4 rfl,
    hne .insufficientResources 5 rfl, hne .invalidParameter 6 rfl]

/-- A concatenation as a number. -/
theorem toNat_append {m n : Nat} (x : BitVec m) (y : BitVec n) :
    (x ++ y).toNat = 2 ^ n * x.toNat + y.toNat := by
  rw [BitVec.toNat_append, ← Nat.shiftLeft_add_eq_or_of_lt y.isLt, Nat.shiftLeft_eq, Nat.mul_comm]

end Sys2Proof

namespace Sys2Proof.Machine

/-- Settles O12: the codes status by status, and the address byte as a concatenation. -/
theorem codesAndOptionWords : Obligations.CodesAndOptionWords :=
  ⟨Status.ofCode_code, fun _ => Status.ofCode_eq_other, fun _ _ _ _ _ => rfl,
    fun slave => ⟨toNat_append slave 0#1, toNat_append slave 1#1⟩⟩

/-- Settles O3: the words of 95_test_vectors are closed terms. -/
theorem writtenWordsDecode : Obligations.WrittenWordsDecode :=
  ⟨rfl, rfl, rfl, rfl, rfl, rfl⟩

/-! ## The address formulas as numbers (30_encoding R80, R81) -/

theorem toNat_hi5 (A : BitVec 8) : (hi5 A).toNat = A.toNat / 8 := by
  rw [hi5_eq_extract, BitVec.extractLsb'_toNat, Nat.shiftRight_eq_div_pow]
  have := A.isLt
  omega

theorem toNat_lo3 (A : BitVec 8) : (lo3 A).toNat = A.toNat % 8 := by
  rw [lo3_eq_extract, BitVec.extractLsb'_toNat, Nat.shiftRight_zero]

/-- The address bits of the opcode byte, widened back to the byte they are computed in. -/
theorem setWidth_hi5 (A : BitVec 8) : (hi5 A).setWidth 8 = (A >>> 3) &&& 0x1F#8 := by
  ext i hi
  interval_cases i <;> simp [hi5]

/-- The low three address bits, left-packed. -/
theorem setWidth_lo3_shiftLeft (A : BitVec 8) : (lo3 A).setWidth 8 <<< 5 = (A &&& 0x07#8) <<< 5 := by
  ext i hi
  interval_cases i <;> simp [lo3]

theorem toNat_setWidth_hi5 (A : BitVec 8) : ((A >>> 3) &&& 0x1F#8).toNat = A.toNat / 8 := by
  rw [← setWidth_hi5, BitVec.toNat_setWidth, toNat_hi5]
  have := A.isLt
  omega

theorem toNat_leftPacked_lo3 (A : BitVec 8) : ((A &&& 0x07#8) <<< 5).toNat = (A.toNat % 8) * 32 := by
  rw [← setWidth_lo3_shiftLeft, setWidth_shiftLeft_five]
  exact (toNat_append (lo3 A) 0#5).trans (by rw [toNat_lo3, Nat.mul_comm]; rfl)

/-- An opcode byte as a number: the opcode above the five address bits. -/
theorem toNat_opcode (op : BitVec 3) (A : BitVec 8) : (op ++ hi5 A).toNat = 32 * op.toNat + A.toNat / 8 :=
  (toNat_append op (hi5 A)).trans (by rw [toNat_hi5]; rfl)

theorem toNat_regOf_eq_mod (loc : BitVec 11) : (regOf loc).toNat = loc.toNat % 256 := by
  rw [regOf_eq_extract, BitVec.extractLsb'_toNat, Nat.shiftRight_zero]

theorem toNat_wordHigh (D : DataWord) : (wordHigh D).toNat = D.toNat / 256 := by
  rw [wordHigh_eq_extract, BitVec.extractLsb'_toNat, Nat.shiftRight_eq_div_pow]
  have := D.isLt
  omega

/-- Settles O6: each byte is its formula's value, and the values stay below the bits beside them. -/
theorem addressShiftsLoseNoBit : Obligations.AddressShiftsLoseNoBit := by
  refine ⟨fun A => ?_, fun loc => ⟨?_, toNat_regOf_eq_mod loc⟩, fun D => ⟨?_, toNat_wordHigh D⟩⟩
  · have hA := A.isLt
    have hlow := toNat_leftPacked_lo3 A
    have hhigh := toNat_setWidth_hi5 A
    have hwrite : 0xA0#8 ||| (hi5 A).setWidth 8 = 0b101#3 ++ hi5 A := shiftLeft_or_eq_append 0b101#3 (hi5 A)
    have hread : 0xC0#8 ||| (hi5 A).setWidth 8 = 0b110#3 ++ hi5 A := shiftLeft_or_eq_append 0b110#3 (hi5 A)
    have hdisjoint (op : BitVec 8) (hop : op &&& 0x1F#8 = 0) : op &&& ((A >>> 3) &&& 0x1F#8) = 0 := by
      rw [BitVec.and_comm (A >>> 3), ← BitVec.and_assoc, hop]
      exact BitVec.zero_and
    refine ⟨hlow, by omega, hhigh, by omega, hdisjoint _ rfl, hdisjoint _ rfl, ?_, ?_, ?_, ?_⟩
    · rw [Request.spiWrOp_buf, hwrite]
      exact congrArg (fun n => [n]) (toNat_opcode 0b101#3 A)
    · rw [Request.spiRdOp_buf, hread]
      exact congrArg (fun n => [n]) (toNat_opcode 0b110#3 A)
    · rw [Request.spiWrLo_buf, setWidth_lo3_shiftLeft, List.map_singleton, hlow]
    · rw [Request.spiRdLo_buf, setWidth_lo3_shiftLeft, List.map_singleton, hlow]
  · rw [BitVec.toNat_and]
    exact Nat.and_le_right
  · rw [wordLow, BitVec.toNat_setWidth]

/-! ## The sequencer's requests -/

section

variable {s : State}

theorem sequence_i2cWrite (hop : s.argOp = 0) (hphase : s.phase = 0 ∨ s.phase = 1) :
    sequence s = .word (encode (.i2cPrimary s.slave s.reg (wordLow s.argData))) := by
  rcases hphase with hphase | hphase <;> simp [sequence, hop, i2cWriteMove, hphase, encode, wordLow]

theorem sequence_i2cPoll (hop : s.argOp = 0) (hphase : s.phase = 2) :
    sequence s = .word (encode (.i2cPoll s.slave s.reg)) := by
  simp [sequence, hop, i2cWriteMove, hphase, encode]

theorem sequence_i2cSetup (hop : s.argOp = 1) (hphase : s.phase = 0 ∨ s.phase = 1) :
    sequence s = .word (encode (.i2cSetup s.slave s.reg)) := by
  rcases hphase with hphase | hphase <;> simp [sequence, hop, i2cReadMove, hphase, encode]

theorem sequence_i2cRead (hop : s.argOp = 1) (hphase : s.phase = 2) :
    sequence s = .word (encode (.i2cRead s.slave)) := by
  simp [sequence, hop, i2cReadMove, hphase, encode]

theorem sequence_spiWe (hop : s.argOp = 2) (hphase : s.phase = 0 ∨ s.phase = 1) :
    sequence s = .word (encode .spiWe) := by
  rcases hphase with hphase | hphase <;> simp [sequence, hop, spiWriteMove, hphase, encode]

theorem sequence_spiWrOp (hop : s.argOp = 2) (hphase : s.phase = 2) :
    sequence s = .word (encode (.spiWrOp (writeHigh s.params.addrPacking s.argAddr))) := by
  simp [sequence, hop, spiWriteMove, hphase, encode]

theorem sequence_spiWrLo (hop : s.argOp = 2) (hphase : s.phase = 3) :
    sequence s = .word (encode (.spiWrLo (writeLow s.params.addrPacking s.argAddr))) := by
  simp [sequence, hop, spiWriteMove, hphase, encode]

theorem sequence_spiWrData (hop : s.argOp = 2) (hphase : s.phase = 4) :
    sequence s = .word (encode (.spiWrData (wordLow s.argData) (wordHigh s.argData))) := by
  simp [sequence, hop, spiWriteMove, hphase, encode]

theorem sequence_strobe (hop : s.argOp = 2) (hphase : s.phase = 5) (hpoll : s.polling = false) :
    sequence s = .strobe := by
  simp [sequence, hop, spiWriteMove, hphase, hpoll]

theorem sequence_isBusy (hop : s.argOp = 2) (hphase : s.phase = 5) (hpoll : s.polling = true) :
    sequence s = .isBusy := by
  simp [sequence, hop, spiWriteMove, hphase, hpoll]

theorem sequence_release (hop : s.argOp = 2) (hphase : s.phase = 6) : sequence s = .release := by
  simp [sequence, hop, spiWriteMove, hphase]

theorem sequence_spiWd (hop : s.argOp = 2) (hphase : s.phase = 7) :
    sequence s = .word (encode .spiWd) := by
  simp [sequence, hop, spiWriteMove, hphase, encode]

theorem sequence_spiRdOp (hop : s.argOp = 3) (hphase : s.phase = 0 ∨ s.phase = 1) :
    sequence s = .word (encode (.spiRdOp (readHigh s.params.addrPacking s.argAddr))) := by
  rcases hphase with hphase | hphase <;> simp [sequence, hop, spiReadMove, hphase, encode]

theorem sequence_spiRdLo (hop : s.argOp = 3) (hphase : s.phase = 2) :
    sequence s = .word (encode (.spiRdLo (readLow s.params.addrPacking s.argAddr))) := by
  simp [sequence, hop, spiReadMove, hphase, encode]

theorem sequence_spiRdData (hop : s.argOp = 3) (hphase : s.phase = 3) :
    sequence s = .word (encode .spiRdData) := by
  simp [sequence, hop, spiReadMove, hphase, encode]

/-! ### Frame turns -/

theorem sequenceFrame_writeEnable (hop : s.argOp = 2) (hphase : s.phase = 0 ∨ s.phase = 1) :
    sequenceFrame s = .word (encode (.spiFrameWriteEnable engineX)) := by
  rcases hphase with hphase | hphase <;> simp [sequenceFrame, hop, hphase]

theorem sequenceFrame_write (hop : s.argOp = 2) (hphase : s.phase = 2) :
    sequenceFrame s = .word (encode (.spiFrameWrite
      (writeHigh s.params.addrPacking s.argAddr ++ writeLow s.params.addrPacking s.argAddr)
      (wordLow s.argData) (wordHigh s.argData))) := by
  simp [sequenceFrame, hop, hphase]

theorem sequenceFrame_writeDisable (hop : s.argOp = 2) (hphase : s.phase = 7) :
    sequenceFrame s = .word (encode (.spiFrameWriteDisable engineX)) := by
  simp [sequenceFrame, hop, hphase]

theorem sequenceFrame_read (hop : s.argOp = 3) (hphase : s.phase = 0 ∨ s.phase = 1) :
    sequenceFrame s = .word (encode (.spiFrameRead
      (readHigh s.params.addrPacking s.argAddr ++ readLow s.params.addrPacking s.argAddr))) := by
  rcases hphase with hphase | hphase <;> simp [sequenceFrame, hop, hphase]

/-- Where no physical transaction begins a frame turn is a phase's. -/
theorem sequenceFrame_eq_sequence
    (hwrite : s.argOp = 2 → s.phase ≠ 0 ∧ s.phase ≠ 1 ∧ s.phase ≠ 2 ∧ s.phase ≠ 7)
    (hread : s.argOp = 3 → s.phase ≠ 0 ∧ s.phase ≠ 1) : sequenceFrame s = sequence s := by
  unfold sequenceFrame
  rw [if_neg, if_neg, if_neg, if_neg]
  · rintro ⟨hop, h⟩
    have := hread hop
    tauto
  all_goals
    rintro ⟨hop, h⟩
    have := hwrite hop
    tauto

end

/-- Settles O13: the sequencer's table of the two I2C operations, and the symbols of its four requests. -/
theorem i2cPhasesMakeTheTabledRequests : Obligations.I2cPhasesMakeTheTabledRequests :=
  ⟨fun _ hop => ⟨fun hphase => sequence_i2cWrite hop hphase, fun hphase => sequence_i2cPoll hop hphase⟩,
    fun _ hop => ⟨fun hphase => sequence_i2cSetup hop hphase, fun hphase => sequence_i2cRead hop hphase⟩,
    fun _ _ _ _ => ⟨rfl, rfl, rfl, rfl⟩⟩

/-! ## The trace of a strobe and of a release -/

/-- However a phase's call is answered, it is the trace's new entry. -/
theorem trace_of_callPhase {k : BitVec 4} {r : Request} {s t : State} {e : Status}
    (h : callPhase k r s = .answered e t) : t.trace = s.trace ++ [recordOf r (nextReply s)] := by
  rcases callPhase_cases k r s with ⟨-, hc⟩ | ⟨-, hc⟩ <;> rw [hc] at h
  · cases h
  · cases h
    exact congrArg (·.2.2.2) (reportOf_afterCall r (nextReply s) (phaseStart k r s))

theorem trace_of_spiStrobe {s t : State} (h : spiStrobe s = .next t) :
    t.trace = s.trace ++ [recordOf .spiStrobe (nextReply s)] := by
  unfold spiStrobe at h
  split at h
  · cases h
  · rename_i hc
    rw [← trace_of_callPhase hc]
    split at h <;> cases h <;> rfl

theorem trace_of_spiRelease {s t : State} (h : spiRelease s = .next t) :
    t.trace = s.trace ++ [recordOf .spiRelease (nextReply s)] := by
  unfold spiRelease phaseStep at h
  split at h
  · cases h
  · rename_i hc
    rw [← trace_of_callPhase hc]
    split at h <;> cases h <;> rfl

/-- The address bits of a frame under `PROSE_5_3`. -/
theorem writeHigh_append_writeLow (A : BitVec 8) : writeHigh .prose53 A ++ writeLow .prose53 A = A :=
  hi5_append_lo3 A

theorem readHigh_append_readLow (A : BitVec 8) : readHigh .prose53 A ++ readLow .prose53 A = A :=
  hi5_append_lo3 A

/-- Settles O14: the sequencer's table of the two SPI operations, with the formulas of `PROSE_5_3`. -/
theorem spiPhasesMakeTheTabledRequests : Obligations.SpiPhasesMakeTheTabledRequests := by
  refine ⟨fun s hop hpack => ⟨fun h => sequence_spiWe hop h, fun h => ?_, fun h => ?_, fun h => ?_,
      fun h hpoll => sequence_strobe hop h hpoll, fun h hpoll => sequence_isBusy hop h hpoll,
      fun h => sequence_release hop h, fun h => sequence_spiWd hop h⟩,
    fun s hop hpack => ⟨fun h => ?_, fun h => ?_, fun h => sequence_spiRdData hop h⟩,
    fun s t h => ⟨_, _, trace_of_spiStrobe h⟩, fun s t h => ⟨_, _, trace_of_spiRelease h⟩,
    fun s hop => ⟨fun h => sequenceFrame_writeEnable hop h, fun h => ⟨?_, fun hpack => ?_⟩,
      fun h => sequenceFrame_writeDisable hop h, fun h0 h1 h2 h7 => ?_⟩,
    fun s hop => ⟨fun h => ⟨?_, fun hpack => ?_⟩, fun h0 h1 => ?_⟩, fun s hop => ?_⟩
  · rw [sequence_spiWrOp hop h, hpack, ← setWidth_hi5]
    rfl
  · rw [sequence_spiWrLo hop h, hpack, ← setWidth_lo3_shiftLeft]
    rfl
  · exact sequence_spiWrData hop h
  · rw [sequence_spiRdOp hop h, hpack, ← setWidth_hi5]
    rfl
  · rw [sequence_spiRdLo hop h, hpack, ← setWidth_lo3_shiftLeft]
    rfl
  · exact sequenceFrame_write hop h
  · rw [sequenceFrame_write hop h, hpack, writeHigh_append_writeLow]
    rfl
  · exact sequenceFrame_eq_sequence (fun _ => ⟨h0, h1, h2, h7⟩) fun h3 => by simp [hop] at h3
  · exact sequenceFrame_read hop h
  · rw [sequenceFrame_read hop h, hpack, readHigh_append_readLow]
    rfl
  · exact sequenceFrame_eq_sequence (fun h2 => by simp [hop] at h2) fun _ => ⟨h0, h1⟩
  · refine sequenceFrame_eq_sequence (fun h => ?_) fun h => ?_ <;> simp [h] at hop

/-! ## Chip select after a call (40_channel_primitives R107) -/

/-- What a call that succeeds leaves of chip select and of the bits since its assertion, whatever the device
behind it does. -/
theorem spiLineAfter_ok (r : Request) (a : Reply) (l : SpiLine) :
    (spiLineAfter r .ok a l).cs = csAfter r.opts l.cs ∧
    (spiLineAfter r .ok a l).wire = if r.opts.chipSelectDisable then [] else wireAfter r l :=
  ⟨rfl, rfl⟩

theorem spiLineAfter_of_ne_ok {e : Status} (he : e ≠ .ok) (r : Request) (a : Reply) (l : SpiLine) :
    spiLineAfter r e a l = a.spiAfter :=
  if_neg he

/-- Settles O15: the line of the returned call, by its flags. -/
theorem chipSelectFollowsTheFlags : Obligations.ChipSelectFollowsTheFlags := by
  intro r s ht hreturns
  have hline : (afterCall r (nextReply s) s).spiLine =
      spiLineAfter r (replyStatus r (nextReply s)) (nextReply s) (settleSpi s).spiLine := by
    rw [afterCall_spi _ _ _ ht, afterSpiCall_spiLine]
  refine ⟨_, _, xfer_returns r s hreturns, fun hok => ?_, fun hne => ?_⟩
  · rw [hline, hok]
    obtain ⟨hcs, hwire⟩ := spiLineAfter_ok r (nextReply s) (settleSpi s).spiLine
    rw [hcs, hwire, csAfter, wireAfter]
    refine ⟨fun hdis => ?_, fun hen hdis => ?_, fun hen hdis => ?_⟩
    · simp [hdis]
    · simp [hen, hdis]
    · simp [hen, hdis]
  · rw [hline, spiLineAfter_of_ne_ok hne]

/-! ## Steps that run a decoded word, and the environment's moves -/

section

variable {s : State} {rest : List Input}

theorem step_of_no_input (hin : s.inputs = []) : step s = outcomeOf (engineTurn (sequence s) s) := by
  rw [step_eq_outcomeOf, fetch, hin]

theorem step_of_engine (hin : s.inputs = .engine :: rest) :
    step s = outcomeOf (engineTurn (sequence s) { s with inputs := rest }) := by
  rw [step_eq_outcomeOf, fetch, hin]

theorem step_of_engineFrame (hin : s.inputs = .engineFrame :: rest) :
    step s = outcomeOf (engineTurn (sequenceFrame s) { s with inputs := rest }) := by
  rw [step_eq_outcomeOf, fetch, hin]

theorem step_of_command {w : CommandWord} (hin : s.inputs = .cmd w :: rest) :
    step s = outcomeOf (commandWrite w { s with inputs := rest }) := by
  rw [step_eq_outcomeOf, fetch, hin]

/-- A word of the sequencer that decodes to `i` runs `i`. -/
theorem outcomeOf_engineTurn_word {e : Encoded} {i : Instr} (hrun : s.engine = .running)
    (hdec : decode e = .ok i) : outcomeOf (engineTurn (.word e) s) = exec i s := by
  simp [engineTurn, hrun, runWord, hdec, outcomeOf]

theorem outcomeOf_engineTurn_encode (i : Instr) (hrun : s.engine = .running) :
    outcomeOf (engineTurn (.word (encode i)) s) = exec i s :=
  outcomeOf_engineTurn_word hrun (decodeInvertsEncode i)

end

/-- Settles O16: the earlier rule for a legal command. -/
theorem stepRunsTheDecodedCommand : Obligations.StepRunsTheDecodedCommand :=
  fun _ _ _ _ hin hidle hdec => step_of_legal_command hin hidle hdec

/-- Settles O17: what is fetched is the engine's turn. -/
theorem stepRunsTheDecodedPhase : Obligations.StepRunsTheDecodedPhase := by
  intro s e i hrun hdec
  refine ⟨fun hin hseq => ?_, fun rest hin hseq => ?_, fun rest hin hseq => ?_⟩
  · rw [step_of_no_input hin, hseq]
    exact outcomeOf_engineTurn_word hrun hdec
  · rw [step_of_engine hin, hseq]
    exact outcomeOf_engineTurn_word hrun hdec
  · rw [step_of_engineFrame hin, hseq]
    exact outcomeOf_engineTurn_word hrun hdec

theorem step_idle {s : State} (hidle : s.engine = .idle) (hin : s.inputs = []) : step s = .next s := by
  simp [step, fetch, hin, engineTurn, hidle]

theorem step_handle {s : State} {bus : Bus} {v : Bool} {rest : List Input}
    (hin : s.inputs = .handle bus v :: rest) : step s = .next (driveHandle bus v { s with inputs := rest }) := by
  simp [step, fetch, hin]

theorem step_cycleEnds {s : State} {bus : Bus} {rest : List Input}
    (hin : s.inputs = .cycleEnds bus :: rest) : step s = .next (endCycle bus { s with inputs := rest }) := by
  simp [step, fetch, hin]

theorem step_reset {s : State} {l : I2cLine} {p : SpiLine} {rest : List Input}
    (hin : s.inputs = .reset l p :: rest) : step s = .next (resetBlock l p { s with inputs := rest }) := by
  simp [step, fetch, hin]

/-- An idle bus is in use by no operation. -/
theorem busInUse_of_idle {s : State} (hidle : s.engine = .idle) (bus : Bus) : busInUse bus s = false := by
  simp [busInUse, hidle]

/-- Settles O19: move by move of the environment. -/
theorem environmentMoves : Obligations.EnvironmentMoves := by
  refine ⟨fun s hidle hin => step_idle hidle hin, fun s v rest => ⟨fun hin => step_handle hin,
    fun hin => step_handle hin, fun hin => step_cycleEnds hin, fun hin => step_cycleEnds hin⟩,
    fun s l p rest hin => ⟨_, step_reset hin, rfl, rfl, rfl, rfl, rfl, rfl, rfl, rfl, rfl, rfl, rfl,
      fun hidle => ?_⟩⟩
  have huse (bus : Bus) : busInUse bus { s with inputs := rest } = false := busInUse_of_idle hidle bus
  constructor <;> simp [resetBlock, huse]

/-- Settles O23: each of the four commands is `start` with its handle valid. -/
theorem hostCommandsAreAccepted : Obligations.HostCommandsAreAccepted := by
  intro s dev loc data addr word
  have hpad : data.setWidth 16 = 0#8 ++ data := by simpa using shiftLeft_or_eq_append 0#8 data
  refine ⟨fun h _ => ?_, fun h _ => ?_, fun h => ⟨?_, ?_⟩⟩
  · rw [← hpad]
    exact congrArg Host.Outcome.next (start_of_handle (bus := .i2c) h 0 dev loc 0 (data.setWidth 16))
  · exact congrArg Host.Outcome.next (start_of_handle (bus := .i2c) h 1 dev loc 0 0)
  · exact congrArg Host.Outcome.next (start_of_handle (bus := .spi) h 2 0 0 addr word)
  · exact congrArg Host.Outcome.next (start_of_handle (bus := .spi) h 3 0 0 addr 0)

/-! ## Reset -/

/-- Settles O50: the fields of the reset state. -/
theorem resetValues : Obligations.ResetValues :=
  ⟨rfl, rfl, rfl, rfl, rfl, rfl, rfl, rfl, rfl⟩

/-- The ranges of the parameters (00_scope R9). -/
theorem params_wf_iff (p : Params) :
    p.wf = true ↔ (1 ≤ p.i2cRetryBudget ∧ p.i2cRetryBudget ≤ 255) ∧
      (1 ≤ p.spiBusyBudget ∧ p.spiBusyBudget ≤ 255) ∧ (1 ≤ p.i2cLocLimit ∧ p.i2cLocLimit ≤ 2048) ∧
      2 ≤ p.fbCap := by
  simp only [Params.wf, Bool.and_eq_true, decide_eq_true_eq, and_assoc]

/-- The parameters are in range, whatever the implementation's own choice is. -/
theorem config_params_wf : Config.params.wf = true := by
  rw [params_wf_iff]
  dsimp only [Config.params]
  omega

/-- Settles O51: after reset no operation runs and there is no result. -/
theorem invHoldsAtReset : Obligations.InvHoldsAtReset := by
  have hshape : ShapeInv State.reset :=
    ⟨config_params_wf, List.length_replicate, reset_memWf, nofun, nofun⟩
  have hoperand : OperandInv State.reset := ⟨fun _ => ⟨rfl, by decide⟩, fun _ => ⟨rfl, rfl⟩, fun _ => rfl⟩
  exact ⟨hshape, hoperand, ⟨nofun, nofun⟩, nofun⟩

/-! ## Placed words (assumption 6) -/

theorem slaveOf_of_high_zero (dev : BitVec 7) (reg : Byte) : slaveOf dev (0#3 ++ reg) = dev := by
  have hhigh : (0#3 ++ reg).extractLsb' 8 3 = 0#3 := BitVec.extractLsb'_append_eq_left
  rw [slaveOf_eq_or_append]
  exact (congrArg (fun x => dev ||| (0#3 ++ x ++ 0#1)) hhigh).trans BitVec.or_zero

theorem regOf_of_high_zero (reg : Byte) : regOf (0#3 ++ reg) = reg := by
  rw [regOf_eq_extract]
  exact BitVec.extractLsb'_append_eq_right

theorem hi5_append (a : BitVec 5) (b : BitVec 3) : hi5 (a ++ b) = a := by
  rw [hi5_eq_extract]
  exact BitVec.extractLsb'_append_eq_left

theorem lo3_append (a : BitVec 5) (b : BitVec 3) : lo3 (a ++ b) = b := by
  rw [lo3_eq_extract]
  exact BitVec.extractLsb'_append_eq_right

/-- What a frame turn fetches at the place of a frame is that frame, with the engine's own ignored bits. -/
theorem step_placed_frame {i : Instr} {s t : State} (ht : t.inputs = .engineFrame :: s.inputs)
    (hrun : t.engine = .running) (hseq : sequenceFrame t = .word (encode i)) :
    step t = exec i { t with inputs := s.inputs } := by
  rw [step_of_engineFrame ht, hseq]
  exact outcomeOf_engineTurn_encode i hrun

theorem step_placed_phase {i : Instr} {s t : State} (ht : t.inputs = .engine :: s.inputs)
    (hrun : t.engine = .running) (hseq : sequence t = .word (encode i)) :
    step t = exec i { t with inputs := s.inputs } := by
  rw [step_of_engine ht, hseq]
  exact outcomeOf_engineTurn_encode i hrun

/-- A placed instruction is what the next step runs. -/
theorem step_placeInstr (i : Instr) (s : State) :
    step (placeInstr i s) = exec (engineSends i) { placeInstr i s with inputs := s.inputs } := by
  cases i with
  | i2cWriteByte dev loc data =>
    exact step_of_legal_command rfl rfl (decodeCommand_encode_i2cWriteByte dev loc data)
  | i2cReadByte dev loc => exact step_of_legal_command rfl rfl (decodeCommand_encode_i2cReadByte dev loc)
  | spiWriteWord addr data =>
    exact step_of_legal_command rfl rfl (decodeCommand_encode_spiWriteWord addr data)
  | spiReadWord addr => exact step_of_legal_command rfl rfl (decodeCommand_encode_spiReadWord addr)
  | spiFrameWriteEnable x =>
    exact step_placed_frame rfl rfl (sequenceFrame_writeEnable rfl (.inr rfl))
  | spiFrameWriteDisable x => exact step_placed_frame rfl rfl (sequenceFrame_writeDisable rfl rfl)
  | spiFrameWrite a lo hi =>
    refine step_placed_frame rfl rfl ((sequenceFrame_write rfl rfl).trans ?_)
    have haddr : writeHigh .prose53 a ++ writeLow .prose53 a = a := writeHigh_append_writeLow a
    show Move.word (encode (.spiFrameWrite (writeHigh .prose53 a ++ writeLow .prose53 a)
      (wordLow (joinWord lo hi)) (wordHigh (joinWord lo hi)))) = _
    rw [haddr, wordLow_joinWord, wordHigh_joinWord]
    rfl
  | spiFrameRead a =>
    refine step_placed_frame rfl rfl ((sequenceFrame_read rfl (.inr rfl)).trans ?_)
    exact congrArg (fun x => Move.word (encode (.spiFrameRead x))) (readHigh_append_readLow a)
  | spiWe => exact step_placed_phase rfl rfl (sequence_spiWe rfl (.inr rfl))
  | spiWrOp a =>
    refine step_placed_phase rfl rfl ((sequence_spiWrOp rfl rfl).trans ?_)
    exact congrArg (fun x => Move.word (encode (.spiWrOp x))) (hi5_append a 0#3)
  | spiWrLo b =>
    refine step_placed_phase rfl rfl ((sequence_spiWrLo rfl rfl).trans ?_)
    exact congrArg (fun x => Move.word (encode (.spiWrLo x))) (lo3_append 0#5 b)
  | spiWrData lo hi =>
    refine step_placed_phase rfl rfl ((sequence_spiWrData rfl rfl).trans ?_)
    show Move.word (encode (.spiWrData (wordLow (joinWord lo hi)) (wordHigh (joinWord lo hi)))) = _
    rw [wordLow_joinWord, wordHigh_joinWord]
    rfl
  | spiWd => exact step_placed_phase rfl rfl (sequence_spiWd rfl rfl)
  | spiRdOp a =>
    refine step_placed_phase rfl rfl ((sequence_spiRdOp rfl (.inr rfl)).trans ?_)
    exact congrArg (fun x => Move.word (encode (.spiRdOp x))) (hi5_append a 0#3)
  | spiRdLo b =>
    refine step_placed_phase rfl rfl ((sequence_spiRdLo rfl rfl).trans ?_)
    exact congrArg (fun x => Move.word (encode (.spiRdLo x))) (lo3_append 0#5 b)
  | spiRdData => exact step_placed_phase rfl rfl (sequence_spiRdData rfl rfl)
  | i2cPrimary slave reg data =>
    refine step_placed_phase rfl rfl ((sequence_i2cWrite rfl (.inr rfl)).trans ?_)
    have hdata : wordLow (data.setWidth 16) = data := by simp [wordLow]
    show Move.word (encode (.i2cPrimary (slaveOf slave (0#3 ++ reg)) (regOf (0#3 ++ reg))
      (wordLow (data.setWidth 16)))) = _
    rw [slaveOf_of_high_zero, regOf_of_high_zero, hdata]
    rfl
  | i2cPoll slave reg =>
    refine step_placed_phase rfl rfl ((sequence_i2cPoll rfl rfl).trans ?_)
    show Move.word (encode (.i2cPoll (slaveOf slave (0#3 ++ reg)) (regOf (0#3 ++ reg)))) = _
    rw [slaveOf_of_high_zero, regOf_of_high_zero]
    rfl
  | i2cSetup slave reg =>
    refine step_placed_phase rfl rfl ((sequence_i2cSetup rfl (.inr rfl)).trans ?_)
    show Move.word (encode (.i2cSetup (slaveOf slave (0#3 ++ reg)) (regOf (0#3 ++ reg)))) = _
    rw [slaveOf_of_high_zero, regOf_of_high_zero]
    rfl
  | i2cRead slave =>
    refine step_placed_phase rfl rfl ((sequence_i2cRead rfl rfl).trans ?_)
    exact congrArg (fun x => Move.word (encode (.i2cRead x))) (slaveOf_of_high_zero slave 0)

/-- A host command runs as it is placed. -/
theorem engineSends_of_decodeCommand {w : CommandWord} {i : Instr} (h : decodeCommand w = .ok i) :
    engineSends i = i := by
  rcases (decodeCommand_eq_ok_iff w i).1 h with ⟨-, -, rfl⟩ | ⟨-, -, -, rfl⟩ | ⟨-, -, rfl⟩ | ⟨-, -, -, rfl⟩
    <;> rfl

/-- Settles O18: a command word is placed as it is, any other word as the instruction it decodes to. -/
theorem placedWordRunsNext : Obligations.PlacedWordRunsNext := by
  intro s nbits w i hdec
  by_cases h32 : nbits = 32
  · have hplace : s.withFetchWord nbits w = placeCommand (BitVec.ofNat 32 w) s := if_pos h32
    simp only [decodeTableWord, h32, if_true] at hdec
    split at hdec
    · rename_i j hcommand
      obtain rfl : j = i := Option.some.inj hdec
      rw [hplace, engineSends_of_decodeCommand hcommand]
      exact step_of_legal_command rfl rfl hcommand
    · cases hdec
  · have hplace : s.withFetchWord nbits w = placeInstr i s := by
      simp [State.withFetchWord, placeWord, h32, hdec]
    rw [hplace]
    exact step_placeInstr i s

end Sys2Proof.Machine
end

section
/-! SUPPORT. Every move of a running engine as a flow: the eight kinds of flow, and the flow of each phase, of
each whole frame and of each turn. What holds of the eight kinds and passes from a row's parts to the row
holds of every move. -/

namespace Sys2Proof.Machine

/-! ## The flows that the model does not name -/

/-- What the engine makes of the answer to a primary write made in `s` (41_i2c_engine R124). -/
def primaryAnswered (slave : BitVec 7) (reg data : Byte) (s : State) (e : Status) (t : State) : Flow :=
  if e ≠ .ok ∧ s.params.i2cPrimaryAbort then
    .stopped (finish e 0 false 0 (latchI2c slave reg data e (nextReply s) t))
  else .passed { latchI2c slave reg data e (nextReply s) t with phase := 2, retry := 0 }

/-- What the engine makes of the answer to a poll (41_i2c_engine R125). -/
def pollAnswered (e : Status) (t : State) : Flow :=
  let u := { t with retry := t.retry + 1 }
  if e = .ok then .stopped (finish .ok 0 false u.retry (confirmI2c u))
  else if u.retry.toNat = t.params.i2cRetryBudget then .stopped (finish e 0 false u.retry u)
  else .passed u

/-- A phase's call, and what the engine makes of its answer. -/
def callThen (k : BitVec 4) (r : Request) (answered : Status → State → Flow) (s : State) : Flow :=
  match callPhase k r s with
  | .stuck => .stuck
  | .answered e t => answered e t

def primaryFlow (slave : BitVec 7) (reg data : Byte) (s : State) : Flow :=
  callThen 1 (.i2cPrimary slave reg data) (primaryAnswered slave reg data s) s

def pollFlow (slave : BitVec 7) (reg : Byte) (s : State) : Flow :=
  callThen 2 (.i2cPoll slave reg) pollAnswered s

def i2cReadFlow (slave : BitVec 7) (s : State) : Flow :=
  callThen 2 (.i2cRead slave) (fun e t => .stopped
    (if e = .ok then finish .ok ((fbByte t 0).setWidth 16) false 0 t else abortRead e t)) s

def strobeFlow (s : State) : Flow :=
  callThen 5 .spiStrobe (fun e t =>
    if e = .ok then .passed { t with polling := true, retry := 0 } else .stopped (failSpiWrite e t)) s

/-- One `IsBusy()` of step 5 (42_spi_engine R148). -/
def busyFlow (s : State) : Flow :=
  if (nextReply s).returns then
    if Status.ofCode (nextReply s).code = .ok then
      .passed (if (nextReply s).busy ∧ (s.retry + 1).toNat < s.params.spiBusyBudget
        then busySampled (nextReply s) s
        else { busySampled (nextReply s) s with phase := 6, polling := false })
    else .stopped (failSpiWrite (Status.ofCode (nextReply s).code) (afterIsBusy (nextReply s) s))
  else .stuck

/-! ## A call and its answer -/

section

variable (k : BitVec 4) (r : Request) (answered : Status → State → Flow) (s : State)

/-- A call hangs, or the engine reacts to the effective status in the state the call leaves. -/
theorem callThen_cases :
    ((nextReply s).returns = false ∧ callThen k r answered s = .stuck) ∨
    ((nextReply s).returns = true ∧ callThen k r answered s =
      answered (replyStatus r (nextReply s)) (afterCall r (nextReply s) (phaseStart k r s))) := by
  unfold callThen
  rcases callPhase_cases k r s with ⟨h, hc⟩ | ⟨h, hc⟩ <;> rw [hc]
  · exact .inl ⟨h, rfl⟩
  · exact .inr ⟨h, rfl⟩

variable {s}

theorem callThen_returns (h : (nextReply s).returns = true) :
    callThen k r answered s =
      answered (replyStatus r (nextReply s)) (afterCall r (nextReply s) (phaseStart k r s)) := by
  rw [callThen, callPhase_returns k r s h]

theorem callThen_hangs (h : (nextReply s).returns = false) : callThen k r answered s = .stuck := by
  rcases callThen_cases k r answered s with ⟨-, hc⟩ | ⟨h', -⟩
  · exact hc
  · cases h.symm.trans h'

end

/-- A phase that goes on by one where its call succeeds. -/
theorem phaseStep_eq_callThen (k : BitVec 4) (r : Request) (fail : Status → State → State) (s : State) :
    phaseStep k r fail s = callThen k r
      (fun e t => if e = .ok then .passed { t with phase := k + 1 } else .stopped (fail e t)) s := rfl

theorem writeDisableFlow_eq_callThen (r : Request) (s : State) :
    writeDisableFlow r s = callThen 7 r
      (fun e t => .stopped (if e = .ok then finish .ok 0 t.busyLast t.retry t else failSpiWrite e t)) s := rfl

theorem readDataFlow_eq_callThen (s : State) :
    readDataFlow s = callThen 3 .spiRdData (fun e t => .stopped
      (if e = .ok then finish .ok (joinWord (fbByte t 0) (fbByte t 1)) false 0 t else abortRead e t)) s := rfl

/-! ## The flow of each instruction and move -/

theorem execI2cPrimary_eq_flow (slave : BitVec 7) (reg data : Byte) (s : State) :
    execI2cPrimary slave reg data s = flowOutcome (primaryFlow slave reg data s) := by
  unfold execI2cPrimary primaryFlow callThen
  cases callPhase 1 (.i2cPrimary slave reg data) s with
  | stuck => rfl
  | answered e t =>
    simp only [primaryAnswered]
    split <;> rfl

theorem execI2cPoll_eq_flow (slave : BitVec 7) (reg : Byte) (s : State) :
    execI2cPoll slave reg s = flowOutcome (pollFlow slave reg s) := by
  unfold execI2cPoll pollFlow callThen
  cases hc : callPhase 2 (.i2cPoll slave reg) s with
  | stuck => rfl
  | answered e t =>
    have hparams : t.params = s.params := congrArg (·.2.2.2.2.2.2.2.1) (operandsOf_callPhase hc)
    simp only [pollAnswered, hparams]
    split
    · rfl
    · split <;> rfl

theorem execI2cRead_eq_flow (slave : BitVec 7) (s : State) :
    execI2cRead slave s = flowOutcome (i2cReadFlow slave s) := by
  unfold execI2cRead i2cReadFlow callThen
  cases callPhase 2 (.i2cRead slave) s with
  | stuck => rfl
  | answered e t => exact (apply_ite _ _ _ _).symm

theorem spiStrobe_eq_flow (s : State) : spiStrobe s = flowOutcome (strobeFlow s) := by
  unfold spiStrobe strobeFlow callThen
  cases callPhase 5 .spiStrobe s with
  | stuck => rfl
  | answered e t =>
    dsimp only
    split <;> rfl

theorem spiIsBusy_eq_flow (s : State) : spiIsBusy s = flowOutcome (busyFlow s) := by
  unfold busyFlow
  by_cases hreturns : (nextReply s).returns = true
  · by_cases hstatus : Status.ofCode (nextReply s).code = .ok
    · rw [spiIsBusy_of_status_ok hreturns hstatus, if_pos hreturns, if_pos hstatus]
      rfl
    · rw [spiIsBusy_of_status_ne_ok hreturns hstatus, if_pos hreturns, if_neg hstatus]
      rfl
  · simp [spiIsBusy, hreturns, flowOutcome]

/-! ## The eight kinds of flow -/

/-- How a phase that goes on by one ends an operation whose call failed: as a write does or as a read does. -/
def IsAbort (fail : Status → State → State) : Prop :=
  fail = failSpiWrite ∨ fail = abortRead

/-- The flows of a bus's moves, with the most channel calls one makes: the eight kinds of a single call, and
rows of them. -/
inductive BusFlow : Bus → Nat → (State → Flow) → Prop where
  | i2cStep (slave : BitVec 7) (k : BitVec 4) (r : Request) (ht : r.target = .i2c slave)
      (fail : Status → State → State) (hf : IsAbort fail) : BusFlow .i2c 1 (phaseStep k r fail)
  | spiStep (k : BitVec 4) (r : Request) (ht : r.target = .spi) (fail : Status → State → State)
      (hf : IsAbort fail) : BusFlow .spi 1 (phaseStep k r fail)
  | primary (slave : BitVec 7) (reg data : Byte) : BusFlow .i2c 1 (primaryFlow slave reg data)
  | poll (slave : BitVec 7) (reg : Byte) : BusFlow .i2c 1 (pollFlow slave reg)
  | i2cRead (slave : BitVec 7) : BusFlow .i2c 1 (i2cReadFlow slave)
  | strobe : BusFlow .spi 1 strobeFlow
  | isBusy : BusFlow .spi 1 busyFlow
  | writeDisable (r : Request) (ht : r.target = .spi) : BusFlow .spi 1 (writeDisableFlow r)
  | readData : BusFlow .spi 1 readDataFlow
  | andThen {bus : Bus} {m n : Nat} {f g : State → Flow} (hf : BusFlow bus m f) (hg : BusFlow bus n g) :
      BusFlow bus (m + n) fun s => andThen (f s) g

/-- Every phase and every frame is a flow of its bus, of at most three calls. -/
theorem exec_eq_flow {i : Instr} (hcommand : ∀ w, encode i ≠ .command w) :
    ∃ bus n f, n ≤ 3 ∧ BusFlow bus n f ∧ ∀ s, exec i s = flowOutcome (f s) := by
  have hwrite : IsAbort failSpiWrite := .inl rfl
  have hread : IsAbort abortRead := .inr rfl
  have hone : 1 ≤ 3 := by decide
  cases i with
  | i2cWriteByte | i2cReadByte | spiWriteWord | spiReadWord => exact absurd rfl (hcommand _)
  | i2cPrimary slave reg data =>
    exact ⟨_, _, _, hone, .primary slave reg data, execI2cPrimary_eq_flow _ _ _⟩
  | i2cPoll slave reg => exact ⟨_, _, _, hone, .poll slave reg, execI2cPoll_eq_flow _ _⟩
  | i2cSetup slave reg =>
    exact ⟨_, _, _, hone, .i2cStep slave 1 (.i2cSetup slave reg) rfl _ hread, fun _ => rfl⟩
  | i2cRead slave => exact ⟨_, _, _, hone, .i2cRead slave, execI2cRead_eq_flow _⟩
  | spiWe => exact ⟨_, _, _, hone, .spiStep 1 .spiWe rfl _ hwrite, fun _ => rfl⟩
  | spiWrOp a => exact ⟨_, _, _, hone, .spiStep 2 (.spiWrOp a) rfl _ hwrite, fun _ => rfl⟩
  | spiWrLo b => exact ⟨_, _, _, hone, .spiStep 3 (.spiWrLo b) rfl _ hwrite, fun _ => rfl⟩
  | spiWrData lo hi => exact ⟨_, _, _, hone, .spiStep 4 (.spiWrData lo hi) rfl _ hwrite, fun _ => rfl⟩
  | spiWd => exact ⟨_, _, _, hone, .writeDisable .spiWd rfl, fun _ => rfl⟩
  | spiRdOp a => exact ⟨_, _, _, hone, .spiStep 1 (.spiRdOp a) rfl _ hread, fun _ => rfl⟩
  | spiRdLo b => exact ⟨_, _, _, hone, .spiStep 2 (.spiRdLo b) rfl _ hread, fun _ => rfl⟩
  | spiRdData => exact ⟨_, _, _, hone, .readData, fun _ => rfl⟩
  | spiFrameWriteEnable x =>
    exact ⟨_, _, _, hone, .spiStep 1 (.spiNineBits (0b10011#5 ++ x)) rfl _ hwrite, fun _ => rfl⟩
  | spiFrameWriteDisable x =>
    exact ⟨_, _, _, hone, .writeDisable (.spiNineBits (0b10000#5 ++ x)) rfl, fun _ => rfl⟩
  | spiFrameWrite a lo hi =>
    exact ⟨_, _, _, le_rfl, .andThen (.spiStep 2 (.spiWrOp (hi5 a)) rfl _ hwrite)
      (.andThen (.spiStep 3 (.spiWrLo (lo3 a)) rfl _ hwrite)
        (.spiStep 4 (.spiWrData lo hi) rfl _ hwrite)), fun _ => rfl⟩
  | spiFrameRead a =>
    exact ⟨_, _, _, le_rfl, .andThen (.spiStep 1 (.spiRdOp (hi5 a)) rfl _ hread)
      (.andThen (.spiStep 2 (.spiRdLo (lo3 a)) rfl _ hread) .readData), fun _ => rfl⟩

theorem spiRelease_eq_flow (s : State) :
    spiRelease s = flowOutcome (phaseStep 6 .spiRelease failSpiWrite s) := rfl

/-- The flow of a move of the sequencer, the same at every state; a move that has none has no next state. -/
theorem engineTurn_eq_flow {m : Move} (hm : ∀ w, m ≠ .word (.command w)) :
    (∃ bus n f, BusFlow bus n f ∧
      ∀ s, s.engine = .running → outcomeOf (engineTurn m s) = flowOutcome (f s)) ∨
    (∃ o, (∀ t, o ≠ .next t) ∧ ∀ s, s.engine = .running → outcomeOf (engineTurn m s) = o) := by
  cases m with
  | word e =>
    cases hdec : decode e with
    | error err =>
      refine .inr ⟨.refused (.undecodable err), fun _ => by simp, fun s hrun => ?_⟩
      simp [engineTurn, hrun, runWord, hdec, outcomeOf]
    | ok i =>
      have hcommand : ∀ w, encode i ≠ .command w :=
        decode_noCommand (e := e) (fun w he => hm w (congrArg Move.word he)) i hdec
      obtain ⟨bus, n, f, -, hf, hexec⟩ := exec_eq_flow hcommand
      exact .inl ⟨bus, n, f, hf, fun s hrun => (outcomeOf_engineTurn_word hrun hdec).trans (hexec s)⟩
  | strobe =>
    refine .inl ⟨_, _, _, .strobe, fun s hrun => ?_⟩
    rw [← spiStrobe_eq_flow, engineTurn, hrun]
    rfl
  | isBusy =>
    refine .inl ⟨_, _, _, .isBusy, fun s hrun => ?_⟩
    rw [← spiIsBusy_eq_flow, engineTurn, hrun]
    rfl
  | release =>
    refine .inl ⟨_, _, _, .spiStep 6 .spiRelease rfl failSpiWrite (.inl rfl), fun s hrun => ?_⟩
    rw [← spiRelease_eq_flow, engineTurn, hrun]
    rfl
  | outOfTable =>
    refine .inr ⟨.fault .phaseOutOfTable, fun _ => by simp, fun s hrun => ?_⟩
    rw [engineTurn, hrun]
    rfl

end Sys2Proof.Machine
end

section
/-! SUPPORT. What every move of a running engine can do: one call each, whose effect on the channels and the
devices is one of six, and the engine's own registers. From this: the calls a move appends to the trace, the
bus it does not touch, the shape it keeps, and where it hangs. -/

namespace Sys2Proof.Machine

/-! ## Where a flow ends -/

/-- Every state in which a flow ends or goes on has a property. -/
def FlowAll (P : State → Prop) : Flow → Prop
  | .stuck => True
  | .stopped t => P t
  | .passed t => P t

section

variable {P Q : State → Prop} {s t : State}

theorem FlowAll.of_outcome {f : Flow} (h : FlowAll P f) (hnext : flowOutcome f = .next t) : P t := by
  rcases (flowOutcome_next f t).1 hnext with rfl | rfl <;> exact h

theorem FlowAll.mono {f : Flow} (h : FlowAll P f) (himp : ∀ t, P t → Q t) : FlowAll Q f := by
  cases f with
  | stuck => trivial
  | stopped t => exact himp t h
  | passed t => exact himp t h

theorem FlowAll.andThen {f : Flow} {g : State → Flow} (hf : FlowAll P f) (hstop : ∀ t, P t → Q t)
    (hnext : ∀ t, P t → FlowAll Q (g t)) : FlowAll Q (andThen f g) := by
  cases f with
  | stuck => trivial
  | stopped t => exact hstop t hf
  | passed t => exact hnext t hf

/-- A call's flow, by what the engine makes of the answer. -/
theorem flowAll_callThen {k : BitVec 4} {r : Request} {answered : Status → State → Flow}
    (h : FlowAll P (answered (replyStatus r (nextReply s))
      (afterCall r (nextReply s) (phaseStart k r s)))) : FlowAll P (callThen k r answered s) := by
  rcases callThen_cases k r answered s with ⟨-, hc⟩ | ⟨-, hc⟩ <;> rw [hc]
  · trivial
  · exact h

end

/-! ## What one move does beside the engine's own registers -/

/-- A state without its sequencing and result registers: what no move of the engine changes but by its call. -/
def restOf (s : State) : State :=
  { s with
    resStatus := 0, resData := 0, resBusy := false, resRetries := 0, resDone := false
    engine := .idle, phase := 0, polling := false, retry := 0, busyLast := false }

/-- The state in which a phase's call has returned. -/
def answeredCall (k : BitVec 4) (r : Request) (s : State) : State :=
  afterCall r (nextReply s) (phaseStart k r s)

/-! ### The fields of a state in which a call is made and in which it has returned -/

section

variable (k : BitVec 4) (r : Request) (s : State)

@[simp] theorem phaseStart_params : (phaseStart k r s).params = s.params := rfl
@[simp] theorem phaseStart_argOp : (phaseStart k r s).argOp = s.argOp := rfl
@[simp] theorem phaseStart_argDev : (phaseStart k r s).argDev = s.argDev := rfl
@[simp] theorem phaseStart_argLoc : (phaseStart k r s).argLoc = s.argLoc := rfl
@[simp] theorem phaseStart_argAddr : (phaseStart k r s).argAddr = s.argAddr := rfl
@[simp] theorem phaseStart_argData : (phaseStart k r s).argData = s.argData := rfl
@[simp] theorem phaseStart_resStatus : (phaseStart k r s).resStatus = s.resStatus := rfl
@[simp] theorem phaseStart_resData : (phaseStart k r s).resData = s.resData := rfl
@[simp] theorem phaseStart_resBusy : (phaseStart k r s).resBusy = s.resBusy := rfl
@[simp] theorem phaseStart_resRetries : (phaseStart k r s).resRetries = s.resRetries := rfl
@[simp] theorem phaseStart_resDone : (phaseStart k r s).resDone = s.resDone := rfl
@[simp] theorem phaseStart_engine : (phaseStart k r s).engine = s.engine := rfl
@[simp] theorem phaseStart_polling : (phaseStart k r s).polling = s.polling := rfl
@[simp] theorem phaseStart_retry : (phaseStart k r s).retry = s.retry := rfl
@[simp] theorem phaseStart_busyLast : (phaseStart k r s).busyLast = s.busyLast := rfl
@[simp] theorem phaseStart_i2cChValid : (phaseStart k r s).i2cChValid = s.i2cChValid := rfl
@[simp] theorem phaseStart_spiChValid : (phaseStart k r s).spiChValid = s.spiChValid := rfl
@[simp] theorem phaseStart_i2cLine : (phaseStart k r s).i2cLine = s.i2cLine := rfl
@[simp] theorem phaseStart_i2cPending : (phaseStart k r s).i2cPending = s.i2cPending := rfl
@[simp] theorem phaseStart_i2cMem : (phaseStart k r s).i2cMem = s.i2cMem := rfl
@[simp] theorem phaseStart_spiLine : (phaseStart k r s).spiLine = s.spiLine := rfl
@[simp] theorem phaseStart_spiPending : (phaseStart k r s).spiPending = s.spiPending := rfl
@[simp] theorem phaseStart_spiMem : (phaseStart k r s).spiMem = s.spiMem := rfl
@[simp] theorem phaseStart_spiReadySeen : (phaseStart k r s).spiReadySeen = s.spiReadySeen := rfl
@[simp] theorem phaseStart_inputs : (phaseStart k r s).inputs = s.inputs := rfl
@[simp] theorem phaseStart_replies : (phaseStart k r s).replies = s.replies := rfl
@[simp] theorem phaseStart_draws : (phaseStart k r s).draws = s.draws := rfl
@[simp] theorem phaseStart_trace : (phaseStart k r s).trace = s.trace := rfl
@[simp] theorem phaseStart_phase : (phaseStart k r s).phase = k := rfl
@[simp] theorem phaseStart_fb : (phaseStart k r s).fb = overlay r.buf (List.replicate s.params.fbCap 0) := rfl

end

section

variable (k : BitVec 4) (r : Request) (s : State)

@[simp] theorem answeredCall_params : (answeredCall k r s).params = s.params := by
  cases ht : r.target <;> simp [answeredCall, afterCall, ht]

@[simp] theorem answeredCall_argOp : (answeredCall k r s).argOp = s.argOp := by
  cases ht : r.target <;> simp [answeredCall, afterCall, ht]

@[simp] theorem answeredCall_argDev : (answeredCall k r s).argDev = s.argDev := by
  cases ht : r.target <;> simp [answeredCall, afterCall, ht]

@[simp] theorem answeredCall_argLoc : (answeredCall k r s).argLoc = s.argLoc := by
  cases ht : r.target <;> simp [answeredCall, afterCall, ht]

@[simp] theorem answeredCall_argAddr : (answeredCall k r s).argAddr = s.argAddr := by
  cases ht : r.target <;> simp [answeredCall, afterCall, ht]

@[simp] theorem answeredCall_argData : (answeredCall k r s).argData = s.argData := by
  cases ht : r.target <;> simp [answeredCall, afterCall, ht]

@[simp] theorem answeredCall_resDone : (answeredCall k r s).resDone = s.resDone := by
  cases ht : r.target <;> simp [answeredCall, afterCall, ht]

@[simp] theorem answeredCall_engine : (answeredCall k r s).engine = s.engine := by
  cases ht : r.target <;> simp [answeredCall, afterCall, ht]

@[simp] theorem answeredCall_phase : (answeredCall k r s).phase = k := by
  cases ht : r.target <;> simp [answeredCall, afterCall, ht]

@[simp] theorem answeredCall_polling : (answeredCall k r s).polling = s.polling := by
  cases ht : r.target <;> simp [answeredCall, afterCall, ht]

@[simp] theorem answeredCall_retry : (answeredCall k r s).retry = s.retry := by
  cases ht : r.target <;> simp [answeredCall, afterCall, ht]

@[simp] theorem answeredCall_busyLast : (answeredCall k r s).busyLast = s.busyLast := by
  cases ht : r.target <;> simp [answeredCall, afterCall, ht]

@[simp] theorem answeredCall_i2cChValid : (answeredCall k r s).i2cChValid = s.i2cChValid := by
  cases ht : r.target <;> simp [answeredCall, afterCall, ht]

@[simp] theorem answeredCall_spiChValid : (answeredCall k r s).spiChValid = s.spiChValid := by
  cases ht : r.target <;> simp [answeredCall, afterCall, ht]

@[simp] theorem answeredCall_inputs : (answeredCall k r s).inputs = s.inputs := by
  cases ht : r.target <;> simp [answeredCall, afterCall, ht]

@[simp] theorem answeredCall_replies : (answeredCall k r s).replies = s.replies.tail := by
  cases ht : r.target <;> simp [answeredCall, afterCall, ht]

@[simp] theorem answeredCall_draws : (answeredCall k r s).draws = s.draws + 1 := by
  cases ht : r.target <;> simp [answeredCall, afterCall, ht]

@[simp] theorem answeredCall_trace : (answeredCall k r s).trace = s.trace ++ [recordOf r (nextReply s)] := by
  cases ht : r.target <;> simp [answeredCall, afterCall, ht]

end

/-- What one move on a bus leaves of the channels and the devices: a call has returned; after a primary write
the device's cell is latched; after an acknowledged poll it is confirmed; the ready line has been sampled, to
no effect or to be remembered. -/
inductive MoveEffect (s : State) : Bus → State → Prop where
  | i2c (slave : BitVec 7) (k : BitVec 4) (r : Request) (ht : r.target = .i2c slave) :
      MoveEffect s .i2c (answeredCall k r s)
  | latch (slave : BitVec 7) (reg data : Byte) (e : Status) :
      MoveEffect s .i2c
        (latchI2c slave reg data e (nextReply s) (answeredCall 1 (.i2cPrimary slave reg data) s))
  | confirm (slave : BitVec 7) (reg : Byte) :
      MoveEffect s .i2c (confirmI2c (answeredCall 2 (.i2cPoll slave reg) s))
  | spi (k : BitVec 4) (r : Request) (ht : r.target = .spi) : MoveEffect s .spi (answeredCall k r s)
  | sampled : MoveEffect s .spi (afterIsBusy (nextReply s) s)
  | ready : MoveEffect s .spi (noteReady (nextReply s).busy (afterIsBusy (nextReply s) s))

/-- From `s` to `t` a row of moves on a bus was made, each one call. -/
inductive Moves (bus : Bus) : Nat → State → State → Prop where
  | one {s u t : State} (heffect : MoveEffect s bus u) (hrest : restOf t = restOf u) : Moves bus 1 s t
  | row {m n : Nat} {s t u : State} (hst : Moves bus m s t) (htu : Moves bus n t u) : Moves bus (m + n) s u

/-- From `s` to `t` at most `n` moves on a bus were made. -/
def MovesUpTo (bus : Bus) (n : Nat) (s t : State) : Prop :=
  ∃ m, m ≤ n ∧ Moves bus m s t

theorem MoveEffect.movesUpTo {bus : Bus} {s u t : State} (h : MoveEffect s bus u)
    (hrest : restOf t = restOf u) : MovesUpTo bus 1 s t :=
  ⟨1, le_rfl, .one h hrest⟩

theorem restOf_abort {fail : Status → State → State} (h : IsAbort fail) (e : Status) (t : State) :
    restOf (fail e t) = restOf t := by
  rcases h with rfl | rfl <;> rfl

/-- Every flow of a bus is a row of at most as many moves as its kind says. -/
theorem BusFlow.moves {bus : Bus} {n : Nat} {f : State → Flow} (hf : BusFlow bus n f) (s : State) :
    FlowAll (MovesUpTo bus n s) (f s) := by
  induction hf generalizing s with
  | i2cStep slave k r ht fail hfail =>
    have heffect : MoveEffect s .i2c (answeredCall k r s) := .i2c slave k r ht
    refine flowAll_callThen ?_
    split
    · exact heffect.movesUpTo rfl
    · exact heffect.movesUpTo (restOf_abort hfail _ _)
  | spiStep k r ht fail hfail =>
    have heffect : MoveEffect s .spi (answeredCall k r s) := .spi k r ht
    refine flowAll_callThen ?_
    split
    · exact heffect.movesUpTo rfl
    · exact heffect.movesUpTo (restOf_abort hfail _ _)
  | primary slave reg data =>
    refine flowAll_callThen ?_
    unfold primaryAnswered
    split <;> exact (MoveEffect.latch slave reg data _).movesUpTo rfl
  | poll slave reg =>
    have heffect : MoveEffect s .i2c (answeredCall 2 (.i2cPoll slave reg) s) := .i2c slave 2 _ rfl
    refine flowAll_callThen ?_
    unfold pollAnswered
    dsimp only
    split
    · exact (MoveEffect.confirm slave reg).movesUpTo rfl
    · split <;> exact heffect.movesUpTo rfl
  | i2cRead slave =>
    have heffect : MoveEffect s .i2c (answeredCall 2 (.i2cRead slave) s) := .i2c slave 2 _ rfl
    refine flowAll_callThen (heffect.movesUpTo ?_)
    split <;> rfl
  | strobe =>
    have heffect : MoveEffect s .spi (answeredCall 5 .spiStrobe s) := .spi 5 _ rfl
    refine flowAll_callThen ?_
    split <;> exact heffect.movesUpTo rfl
  | isBusy =>
    unfold busyFlow
    split
    · split
      · refine MoveEffect.ready.movesUpTo ?_
        split <;> rfl
      · exact MoveEffect.sampled.movesUpTo rfl
    · trivial
  | writeDisable r ht =>
    have heffect : MoveEffect s .spi (answeredCall 7 r s) := .spi 7 r ht
    refine flowAll_callThen (heffect.movesUpTo ?_)
    split <;> rfl
  | readData =>
    have heffect : MoveEffect s .spi (answeredCall 3 .spiRdData s) := .spi 3 _ rfl
    refine flowAll_callThen (heffect.movesUpTo ?_)
    split <;> rfl
  | andThen hf hg ihf ihg =>
    refine (ihf s).andThen (fun t ⟨k, hk, hst⟩ => ⟨k, by omega, hst⟩) fun t ⟨k, hk, hst⟩ => ?_
    exact (ihg t).mono fun u ⟨l, hl, htu⟩ => ⟨k + l, by omega, hst.row htu⟩

/-- Every phase and frame that has a next state is a row of at most three moves on its bus. -/
theorem moves_of_exec {i : Instr} {s t : State} (hcommand : ∀ w, encode i ≠ .command w)
    (h : exec i s = .next t) : ∃ bus, MovesUpTo bus 3 s t := by
  obtain ⟨bus, n, f, hn, hf, hexec⟩ := exec_eq_flow hcommand
  obtain ⟨m, hm, hmoves⟩ := (hf.moves s).of_outcome ((hexec s).symm.trans h)
  exact ⟨bus, m, hm.trans hn, hmoves⟩

/-! ## The calls of a row of moves -/

/-- From `s` to `t` these calls were made: appended to the trace, one answer used for each. -/
def Called (calls : List Call) (s t : State) : Prop :=
  t.trace = s.trace ++ calls ∧ t.draws = s.draws + calls.length ∧ t.replies = s.replies.drop calls.length

theorem Called.refl (s : State) : Called [] s s := ⟨by simp, rfl, rfl⟩

theorem Called.trans {calls calls' : List Call} {s t u : State} (hst : Called calls s t)
    (htu : Called calls' t u) : Called (calls ++ calls') s u := by
  obtain ⟨htrace, hdraws, hreplies⟩ := hst
  obtain ⟨htrace', hdraws', hreplies'⟩ := htu
  refine ⟨by rw [htrace', htrace, List.append_assoc], ?_, ?_⟩
  · rw [hdraws', hdraws, List.length_append, Nat.add_assoc]
  · rw [hreplies', hreplies, List.drop_drop, List.length_append]

/-- The answers still to come, after some calls. -/
theorem Called.replyAt {calls : List Call} {s t : State} (h : Called calls s t) (n : Nat) :
    replyAt t n = replyAt s (calls.length + n) := by
  obtain ⟨-, hdraws, hreplies⟩ := h
  refine nextReply_congr _ _ ?_ ?_
  · show t.replies.drop n = s.replies.drop (calls.length + n)
    rw [hreplies, List.drop_drop]
  · show t.draws + n = s.draws + (calls.length + n)
    rw [hdraws, Nat.add_assoc]

theorem replyAt_zero (s : State) : replyAt s 0 = nextReply s := rfl

/-- The trace and the answers are no register of the engine. -/
theorem Called.of_restOf_eq {calls : List Call} {s t u : State} (h : Called calls s u)
    (hrest : restOf t = restOf u) : Called calls s t := by
  obtain ⟨htrace, hdraws, hreplies⟩ := h
  exact ⟨(congrArg State.trace hrest).trans htrace, (congrArg State.draws hrest).trans hdraws,
    (congrArg State.replies hrest).trans hreplies⟩

/-- A returned call is one call. -/
theorem called_answeredCall (k : BitVec 4) (r : Request) (s : State) :
    Called [recordOf r (nextReply s)] s (answeredCall k r s) := by
  simp [Called]

theorem called_afterIsBusy (a : Reply) (s : State) :
    Called [.isBusy (Status.ofCode a.code) a.busy] s (afterIsBusy a s) :=
  ⟨rfl, rfl, List.drop_one.symm⟩

theorem MoveEffect.called {bus : Bus} {s u : State} (h : MoveEffect s bus u) :
    ∃ call, Called [call] s u := by
  cases h with
  | i2c slave k r ht => exact ⟨_, called_answeredCall k r s⟩
  | latch slave reg data e => exact ⟨_, called_answeredCall 1 (.i2cPrimary slave reg data) s⟩
  | confirm slave reg => exact ⟨_, called_answeredCall 2 (.i2cPoll slave reg) s⟩
  | spi k r ht => exact ⟨_, called_answeredCall k r s⟩
  | sampled => exact ⟨_, called_afterIsBusy (nextReply s) s⟩
  | ready => exact ⟨_, called_afterIsBusy (nextReply s) s⟩

/-- Each move makes one call. -/
theorem Moves.called {bus : Bus} {n : Nat} {s t : State} (h : Moves bus n s t) :
    ∃ calls, calls.length = n ∧ Called calls s t := by
  induction h with
  | one heffect hrest =>
    obtain ⟨call, hcall⟩ := heffect.called
    exact ⟨[call], rfl, hcall.of_restOf_eq hrest⟩
  | row _ _ ihst ihtu =>
    obtain ⟨calls, rfl, hst⟩ := ihst
    obtain ⟨calls', rfl, htu⟩ := ihtu
    exact ⟨calls ++ calls', List.length_append, hst.trans htu⟩

/-- A host command makes no call. -/
theorem called_start (bus : Bus) (op : BitVec 2) (dev : BitVec 7) (loc : BitVec 11) (addr : BitVec 8)
    (data : DataWord) (s : State) : Called [] s (start bus op dev loc addr data s) := by
  rcases start_cases bus op dev loc addr data s with ⟨-, h⟩ | ⟨-, h⟩ <;> rw [h] <;> exact Called.refl s

/-- An instruction is a host command or a phase or frame. -/
theorem exec_eq_start_or (i : Instr) :
    (∃ bus op dev loc addr data, ∀ s, exec i s = .next (start bus op dev loc addr data s)) ∨
    ∀ w, encode i ≠ .command w := by
  cases i with
  | i2cWriteByte | i2cReadByte | spiWriteWord | spiReadWord =>
    exact .inl ⟨_, _, _, _, _, _, fun _ => rfl⟩
  | _ => exact .inr fun w h => by cases h

/-- Settles O40: a host command makes no call, a phase or frame one for each of at most three moves. -/
theorem traceGrowsByTheCallsMade : Obligations.TraceGrowsByTheCallsMade := by
  intro i s t h
  rcases exec_eq_start_or i with ⟨bus, op, dev, loc, addr, data, hexec⟩ | hcommand
  · rw [hexec, Host.Outcome.next.injEq] at h
    subst h
    obtain ⟨htrace, hdraws, hreplies⟩ := called_start bus op dev loc addr data s
    exact ⟨[], htrace, by decide, hdraws, hreplies⟩
  · obtain ⟨bus, m, hm, hmoves⟩ := moves_of_exec hcommand h
    obtain ⟨calls, rfl, htrace, hdraws, hreplies⟩ := hmoves.called
    exact ⟨calls, htrace, hm, hdraws, hreplies⟩

/-! ## The bus a move does not touch -/

/-- The channel and the device of the other bus are as they were. -/
def OtherBusKept (bus : Bus) (s t : State) : Prop :=
  match bus with
  | .i2c => SameSpi s t
  | .spi => SameI2c s t

theorem SameSpi.trans {s t u : State} (hst : SameSpi s t) (htu : SameSpi t u) : SameSpi s u := by
  obtain ⟨hline, hpending, hmem, hseen⟩ := hst
  obtain ⟨hline', hpending', hmem', hseen'⟩ := htu
  exact ⟨hline'.trans hline, hpending'.trans hpending, hmem'.trans hmem, hseen'.trans hseen⟩

theorem SameI2c.trans {s t u : State} (hst : SameI2c s t) (htu : SameI2c t u) : SameI2c s u := by
  obtain ⟨hline, hpending, hmem⟩ := hst
  obtain ⟨hline', hpending', hmem'⟩ := htu
  exact ⟨hline'.trans hline, hpending'.trans hpending, hmem'.trans hmem⟩

theorem sameSpi_of_restOf_eq {t u : State} (h : restOf t = restOf u) : SameSpi u t :=
  ⟨(congrArg State.spiLine h :), (congrArg State.spiPending h :), (congrArg State.spiMem h :),
    (congrArg State.spiReadySeen h :)⟩

theorem sameI2c_of_restOf_eq {t u : State} (h : restOf t = restOf u) : SameI2c u t :=
  ⟨(congrArg State.i2cLine h :), (congrArg State.i2cPending h :), (congrArg State.i2cMem h :)⟩

theorem answeredCall_i2c {slave : BitVec 7} (k : BitVec 4) {r : Request} (ht : r.target = .i2c slave)
    (s : State) : answeredCall k r s = afterI2cCall r (nextReply s) (phaseStart k r s) :=
  afterCall_i2c _ _ _ slave ht

theorem answeredCall_spi (k : BitVec 4) {r : Request} (ht : r.target = .spi) (s : State) :
    answeredCall k r s = afterSpiCall r (nextReply s) (phaseStart k r s) :=
  afterCall_spi _ _ _ ht

theorem sameSpi_answeredCall {slave : BitVec 7} (k : BitVec 4) {r : Request} (ht : r.target = .i2c slave)
    (s : State) : SameSpi s (answeredCall k r s) := by
  simp [answeredCall_i2c k ht, SameSpi]

theorem sameI2c_answeredCall (k : BitVec 4) {r : Request} (ht : r.target = .spi) (s : State) :
    SameI2c s (answeredCall k r s) := by
  simp [answeredCall_spi k ht, SameI2c]

theorem MoveEffect.otherBusKept {bus : Bus} {s u : State} (h : MoveEffect s bus u) :
    OtherBusKept bus s u := by
  cases h with
  | i2c slave k r ht => exact sameSpi_answeredCall k ht s
  | latch slave reg data e => exact sameSpi_answeredCall (slave := slave) 1 rfl s
  | confirm slave reg => exact sameSpi_answeredCall (slave := slave) 2 rfl s
  | spi k r ht => exact sameI2c_answeredCall k ht s
  | sampled | ready => simp [OtherBusKept, SameI2c]

/-- A row of moves on one bus leaves the other one alone. -/
theorem Moves.otherBusKept {bus : Bus} {n : Nat} {s t : State} (h : Moves bus n s t) :
    OtherBusKept bus s t := by
  induction h with
  | one heffect hrest =>
    cases bus with
    | i2c => exact heffect.otherBusKept.trans (sameSpi_of_restOf_eq hrest)
    | spi => exact heffect.otherBusKept.trans (sameI2c_of_restOf_eq hrest)
  | row _ _ ihst ihtu =>
    cases bus with
    | i2c => exact ihst.trans ihtu
    | spi => exact ihst.trans ihtu

/-! ## The operands -/

theorem operandsOf_restOf (s : State) : operandsOf (restOf s) = operandsOf s := rfl

theorem MoveEffect.operandsOf_eq {bus : Bus} {s u : State} (h : MoveEffect s bus u) :
    operandsOf u = operandsOf s := by
  cases h with
  | i2c | latch | confirm | spi | sampled | ready => simp [operandsOf]

/-- No move writes an operand register, a handle input, a parameter or a move to come. -/
theorem Moves.operandsOf_eq {bus : Bus} {n : Nat} {s t : State} (h : Moves bus n s t) :
    operandsOf t = operandsOf s := by
  induction h with
  | one heffect hrest =>
    have hview := congrArg operandsOf hrest
    rw [operandsOf_restOf, operandsOf_restOf] at hview
    exact hview.trans heffect.operandsOf_eq
  | row _ _ ihst ihtu => exact ihtu.trans ihst

/-! ## The shape -/

/-- A write in progress stays at an address of the device. -/
theorem spiPendingAfter_lt (r : Request) (a : Reply) (s : State)
    (h : ∀ p, s.spiPending = some p → p.1 < spiWords) (p : Nat × DataWord)
    (hp : spiPendingAfter r a s = some p) : p.1 < spiWords := by
  unfold spiPendingAfter at hp
  split at hp
  · cases hp
  · split at hp
    · rename_i write hwrite
      split at hp <;> cases hp
      exact frameWrites_lt r s.spiLine p hwrite
    · split at hp
      · cases hp
      · exact h p hp

theorem settleSpi_pending_lt {s : State} (h : ∀ p, s.spiPending = some p → p.1 < spiWords)
    (p : Nat × DataWord) (hp : (settleSpi s).spiPending = some p) : p.1 < spiWords := by
  rw [settleSpi_spiPending] at hp
  split at hp
  · cases hp
  · exact h p hp

/-- A returned call keeps the shape of the state. -/
theorem shapeInv_answeredCall (k : BitVec 4) (r : Request) {s : State} (h : ShapeInv s) :
    ShapeInv (answeredCall k r s) := by
  obtain ⟨hparams, hfb, hmem, hi2c, hspi⟩ := h
  have hmem' : memWf (answeredCall k r s) = true :=
    afterCall_memWf r (nextReply s) (phaseStart k r s) hspi hmem
  cases ht : r.target with
  | i2c slave =>
    have hi : (answeredCall k r s).i2cPending = s.i2cPending := by simp [answeredCall_i2c k ht]
    obtain ⟨-, hp, -⟩ := sameSpi_answeredCall k ht s
    exact ⟨by simpa using hparams, by simp [answeredCall_i2c k ht], hmem', by rwa [hi], by rwa [hp]⟩
  | spi =>
    obtain ⟨-, hi, -⟩ := sameI2c_answeredCall k ht s
    have hp : (answeredCall k r s).spiPending =
        spiPendingAfter r (nextReply s) (settleSpi (phaseStart k r s)) := by simp [answeredCall_spi k ht]
    refine ⟨by simpa using hparams, by simp [answeredCall_spi k ht], hmem', by rwa [hi], ?_⟩
    rw [hp]
    exact spiPendingAfter_lt r _ _ (settleSpi_pending_lt (s := phaseStart k r s) hspi)

theorem shapeInv_latchI2c (slave : BitVec 7) (reg data : Byte) (e : Status) (a : Reply) {s : State}
    (h : ShapeInv s) : ShapeInv (latchI2c slave reg data e a s) := by
  obtain ⟨hparams, hfb, hmem, -, hspi⟩ := h
  refine ⟨hparams, hfb, latchI2c_memWf slave reg data e a s hmem, fun p hp => ?_, hspi⟩
  rw [latchI2c_i2cPending] at hp
  split at hp <;> cases hp
  exact i2cCell_lt slave reg

theorem shapeInv_confirmI2c {s : State} (h : ShapeInv s) : ShapeInv (confirmI2c s) := by
  obtain ⟨hparams, hfb, hmem, hi2c, hspi⟩ := h
  exact ⟨hparams, hfb, confirmI2c_memWf s hi2c hmem, nofun, hspi⟩

theorem MoveEffect.shapeInv {bus : Bus} {s u : State} (h : MoveEffect s bus u) (hs : ShapeInv s) :
    ShapeInv u := by
  cases h with
  | i2c slave k r ht => exact shapeInv_answeredCall k r hs
  | latch slave reg data e => exact shapeInv_latchI2c slave reg data e _ (shapeInv_answeredCall _ _ hs)
  | confirm slave reg => exact shapeInv_confirmI2c (shapeInv_answeredCall _ _ hs)
  | spi k r ht => exact shapeInv_answeredCall k r hs
  | sampled => exact hs
  | ready => exact hs

/-- The shape is no matter of the engine's own registers. -/
theorem shapeInv_of_restOf_eq {t u : State} (h : restOf t = restOf u) (hu : ShapeInv u) : ShapeInv t := by
  have hview : ShapeInv (restOf u) := hu
  rw [← h] at hview
  exact hview

/-- Every move keeps the shape. -/
theorem Moves.shapeInv {bus : Bus} {n : Nat} {s t : State} (h : Moves bus n s t) (hs : ShapeInv s) :
    ShapeInv t := by
  induction h with
  | one heffect hrest => exact shapeInv_of_restOf_eq hrest (heffect.shapeInv hs)
  | row _ _ ihst ihtu => exact ihtu (ihst hs)

/-! ## A call that never returns -/

/-- No flow gets past a first call that never returns. -/
theorem BusFlow.eq_stuck {bus : Bus} {n : Nat} {f : State → Flow} (hf : BusFlow bus n f) {s : State}
    (h : (nextReply s).returns = false) : f s = .stuck := by
  induction hf with
  | i2cStep | spiStep | primary | poll | i2cRead | strobe | writeDisable | readData =>
    exact callThen_hangs _ _ _ h
  | isBusy => simp [busyFlow, h]
  | andThen _ _ ihf _ => simp [ihf, Machine.andThen]

/-- A single call whose answer the engine always goes on from hangs only where the call does. -/
theorem hang_of_callThen {k : BitVec 4} {r : Request} {answered : Status → State → Flow} {s : State}
    (hne : ∀ e t, answered e t ≠ .stuck) (h : callThen k r answered s = .stuck) :
    ∃ m, m < 1 ∧ (replyAt s m).returns = false := by
  rcases callThen_cases k r answered s with ⟨hreturns, -⟩ | ⟨-, hc⟩
  · exact ⟨0, Nat.one_pos, hreturns⟩
  · exact absurd (hc.symm.trans h) (hne _ _)

/-- A flow that hangs does so in one of its calls. -/
theorem BusFlow.exists_hang {bus : Bus} {n : Nat} {f : State → Flow} (hf : BusFlow bus n f) {s : State}
    (h : f s = .stuck) : ∃ m, m < n ∧ (replyAt s m).returns = false := by
  induction hf generalizing s with
  | i2cStep | spiStep | strobe => exact hang_of_callThen (fun e t => by split_ifs <;> simp) h
  | primary => exact hang_of_callThen (fun e t => by unfold primaryAnswered; split_ifs <;> simp) h
  | poll => exact hang_of_callThen (fun e t => by simp only [pollAnswered]; split_ifs <;> simp) h
  | writeDisable | readData | i2cRead => exact hang_of_callThen (fun e t => by simp) h
  | isBusy =>
    refine ⟨0, Nat.one_pos, Bool.eq_false_iff.2 fun hreturns => ?_⟩
    rw [replyAt_zero] at hreturns
    simp only [busyFlow, hreturns, if_true] at h
    split_ifs at h
  | andThen hf hg ihf ihg =>
    rename_i m n f g
    rcases andThen_cases (f s) g with ⟨hstuck, -⟩ | ⟨t, -, hrow⟩ | ⟨t, hpass, hrow⟩
    · obtain ⟨j, hj, hreply⟩ := ihf hstuck
      exact ⟨j, by omega, hreply⟩
    · cases hrow.symm.trans h
    · obtain ⟨j, hj, hreply⟩ := ihg (hrow.symm.trans h)
      have hmoves := hf.moves s
      rw [hpass] at hmoves
      obtain ⟨l, hl, hmoves⟩ := hmoves
      obtain ⟨calls, rfl, hcalled⟩ := hmoves.called
      rw [hcalled.replyAt] at hreply
      exact ⟨_, by omega, hreply⟩

end Sys2Proof.Machine
end

section
/-! SUPPORT. The engine's turns: one constructor for each phase of each operation, the frame turns as rows of
them, and what every turn keeps and how far it brings the operation. With them the statements about every
step. -/

namespace Sys2Proof.Machine

/-! ## The turns -/

/-- The flow of the engine's turn at a phase of the running operation, by operation and phase
(41_i2c_engine R123, R128; 42_spi_engine R142, R153). The operands of the SPI phases may be any. -/
inductive Turn (s : State) : Flow → Prop where
  | primary (hop : s.argOp = 0) (hphase : s.phase = 0 ∨ s.phase = 1) (data : Byte) :
      Turn s (primaryFlow s.slave s.reg data s)
  | poll (hop : s.argOp = 0) (hphase : s.phase = 2) : Turn s (pollFlow s.slave s.reg s)
  | setup (hop : s.argOp = 1) (hphase : s.phase = 0 ∨ s.phase = 1) :
      Turn s (phaseStep 1 (.i2cSetup s.slave s.reg) abortRead s)
  | i2cRead (hop : s.argOp = 1) (hphase : s.phase = 2) : Turn s (i2cReadFlow s.slave s)
  | writeEnable (hop : s.argOp = 2) (hphase : s.phase = 0 ∨ s.phase = 1) :
      Turn s (writeEnableFlow .spiWe s)
  | writeOpcode (hop : s.argOp = 2) (hphase : s.phase = 2) (a : BitVec 5) : Turn s (writeOpcodeFlow a s)
  | writeLow (hop : s.argOp = 2) (hphase : s.phase = 3) (b : BitVec 3) : Turn s (writeLowFlow b s)
  | writeData (hop : s.argOp = 2) (hphase : s.phase = 4) (lo hi : Byte) : Turn s (writeDataFlow lo hi s)
  | strobe (hop : s.argOp = 2) (hphase : s.phase = 5) (hpoll : s.polling = false) : Turn s (strobeFlow s)
  | isBusy (hop : s.argOp = 2) (hphase : s.phase = 5) (hpoll : s.polling = true) : Turn s (busyFlow s)
  | release (hop : s.argOp = 2) (hphase : s.phase = 6) :
      Turn s (phaseStep 6 .spiRelease failSpiWrite s)
  | writeDisable (hop : s.argOp = 2) (hphase : s.phase = 7) : Turn s (writeDisableFlow .spiWd s)
  | readOpcode (hop : s.argOp = 3) (hphase : s.phase = 0 ∨ s.phase = 1) (a : BitVec 5) :
      Turn s (readOpcodeFlow a s)
  | readLow (hop : s.argOp = 3) (hphase : s.phase = 2) (b : BitVec 3) : Turn s (readLowFlow b s)
  | readData (hop : s.argOp = 3) (hphase : s.phase = 3) : Turn s (readDataFlow s)

/-- A row of at most so many turns, each begun where the one before it passed. -/
inductive Turns : Nat → State → Flow → Prop where
  | one {s : State} {f : Flow} (h : Turn s f) : Turns 1 s f
  | row {n : Nat} {s : State} {f : Flow} {g : State → Flow} (hf : Turn s f)
      (hg : ∀ t, f = .passed t → Turns n t (g t)) : Turns (n + 1) s (andThen f g)

/-- A turn is a flow of one call on the operation's bus. -/
theorem Turn.busFlow {s : State} {f : Flow} (h : Turn s f) :
    ∃ F, BusFlow (busOf s.argOp) 1 F ∧ f = F s := by
  have hi2c {op : BitVec 2} (h : op = 0 ∨ op = 1) : busOf op = .i2c := if_pos h
  have hspi {op : BitVec 2} (h : op = 2 ∨ op = 3) : busOf op = .spi := by
    rcases h with rfl | rfl <;> rfl
  have hwrite : IsAbort failSpiWrite := .inl rfl
  have hread : IsAbort abortRead := .inr rfl
  cases h with
  | primary hop hphase data => exact ⟨_, hi2c (.inl hop) ▸ .primary s.slave s.reg data, rfl⟩
  | poll hop hphase => exact ⟨_, hi2c (.inl hop) ▸ .poll s.slave s.reg, rfl⟩
  | setup hop hphase =>
    exact ⟨_, hi2c (.inr hop) ▸ .i2cStep s.slave 1 (.i2cSetup s.slave s.reg) rfl _ hread, rfl⟩
  | i2cRead hop hphase => exact ⟨_, hi2c (.inr hop) ▸ .i2cRead s.slave, rfl⟩
  | writeEnable hop hphase => exact ⟨_, hspi (.inl hop) ▸ .spiStep 1 .spiWe rfl _ hwrite, rfl⟩
  | writeOpcode hop hphase a => exact ⟨_, hspi (.inl hop) ▸ .spiStep 2 (.spiWrOp a) rfl _ hwrite, rfl⟩
  | writeLow hop hphase b => exact ⟨_, hspi (.inl hop) ▸ .spiStep 3 (.spiWrLo b) rfl _ hwrite, rfl⟩
  | writeData hop hphase lo hi =>
    exact ⟨_, hspi (.inl hop) ▸ .spiStep 4 (.spiWrData lo hi) rfl _ hwrite, rfl⟩
  | strobe hop hphase hpoll => exact ⟨_, hspi (.inl hop) ▸ .strobe, rfl⟩
  | isBusy hop hphase hpoll => exact ⟨_, hspi (.inl hop) ▸ .isBusy, rfl⟩
  | release hop hphase => exact ⟨_, hspi (.inl hop) ▸ .spiStep 6 .spiRelease rfl _ hwrite, rfl⟩
  | writeDisable hop hphase => exact ⟨_, hspi (.inl hop) ▸ .writeDisable .spiWd rfl, rfl⟩
  | readOpcode hop hphase a => exact ⟨_, hspi (.inr hop) ▸ .spiStep 1 (.spiRdOp a) rfl _ hread, rfl⟩
  | readLow hop hphase b => exact ⟨_, hspi (.inr hop) ▸ .spiStep 2 (.spiRdLo b) rfl _ hread, rfl⟩
  | readData hop hphase => exact ⟨_, hspi (.inr hop) ▸ .readData, rfl⟩

/-! ## The sequencer makes turns -/

/-- The engine makes a turn, at a state where an operation runs, by this move. -/
def MakesTurns (n : Nat) (m : Move) (s : State) : Prop :=
  ∃ f, Turns n s f ∧ outcomeOf (engineTurn m s) = flowOutcome f

section

variable {s : State}

theorem makesTurns_encode {n : Nat} {m : Move} {i : Instr} {f : Flow} (hrun : s.engine = .running)
    (hm : m = .word (encode i)) (hf : Turns n s f) (hexec : exec i s = flowOutcome f) :
    MakesTurns n m s := by
  subst hm
  exact ⟨f, hf, (outcomeOf_engineTurn_encode i hrun).trans hexec⟩

theorem op_cases (s : State) : s.argOp = 0 ∨ s.argOp = 1 ∨ s.argOp = 2 ∨ s.argOp = 3 := by
  have := s.argOp.isLt
  bv_omega

/-- The engine's move is a turn, but where `PHASE` is out of the operation's table. -/
theorem sequence_makesTurns (hrun : s.engine = .running) :
    sequence s = .outOfTable ∨ MakesTurns 1 (sequence s) s := by
  have hout : sequence s = .outOfTable ∨ sequence s ≠ .outOfTable := Classical.em _
  refine hout.imp_right fun htable => ?_
  rcases op_cases s with hop | hop | hop | hop
  · by_cases h01 : s.phase = 0 ∨ s.phase = 1
    · exact makesTurns_encode hrun (sequence_i2cWrite hop h01) (.one (.primary hop h01 _))
        (execI2cPrimary_eq_flow _ _ _ _)
    by_cases h2 : s.phase = 2
    · exact makesTurns_encode hrun (sequence_i2cPoll hop h2) (.one (.poll hop h2)) (execI2cPoll_eq_flow _ _ _)
    · exact absurd (by simp only [sequence, hop, i2cWriteMove, if_neg h01, if_neg h2]; rfl) htable
  · by_cases h01 : s.phase = 0 ∨ s.phase = 1
    · exact makesTurns_encode hrun (sequence_i2cSetup hop h01) (.one (.setup hop h01)) rfl
    by_cases h2 : s.phase = 2
    · exact makesTurns_encode hrun (sequence_i2cRead hop h2) (.one (.i2cRead hop h2)) (execI2cRead_eq_flow _ _)
    · exact absurd (by simp only [sequence, hop, i2cReadMove, if_neg h01, if_neg h2]; rfl) htable
  · by_cases h01 : s.phase = 0 ∨ s.phase = 1
    · exact makesTurns_encode hrun (sequence_spiWe hop h01) (.one (.writeEnable hop h01)) rfl
    by_cases h2 : s.phase = 2
    · exact makesTurns_encode hrun (sequence_spiWrOp hop h2) (.one (.writeOpcode hop h2 _)) rfl
    by_cases h3 : s.phase = 3
    · exact makesTurns_encode hrun (sequence_spiWrLo hop h3) (.one (.writeLow hop h3 _)) rfl
    by_cases h4 : s.phase = 4
    · exact makesTurns_encode hrun (sequence_spiWrData hop h4) (.one (.writeData hop h4 _ _)) rfl
    by_cases h5 : s.phase = 5
    · cases hpoll : s.polling with
      | false =>
        rw [sequence_strobe hop h5 hpoll]
        refine ⟨_, .one (.strobe hop h5 hpoll), ?_⟩
        rw [← spiStrobe_eq_flow, engineTurn, hrun]
        rfl
      | true =>
        rw [sequence_isBusy hop h5 hpoll]
        refine ⟨_, .one (.isBusy hop h5 hpoll), ?_⟩
        rw [← spiIsBusy_eq_flow, engineTurn, hrun]
        rfl
    by_cases h6 : s.phase = 6
    · rw [sequence_release hop h6]
      refine ⟨_, .one (.release hop h6), ?_⟩
      rw [engineTurn, hrun]
      rfl
    by_cases h7 : s.phase = 7
    · exact makesTurns_encode hrun (sequence_spiWd hop h7) (.one (.writeDisable hop h7)) rfl
    · exact absurd (by simp only [sequence, hop, spiWriteMove, if_neg h01, if_neg h2, if_neg h3, if_neg h4,
        if_neg h5, if_neg h6, if_neg h7]; rfl) htable
  · by_cases h01 : s.phase = 0 ∨ s.phase = 1
    · exact makesTurns_encode hrun (sequence_spiRdOp hop h01) (.one (.readOpcode hop h01 _)) rfl
    by_cases h2 : s.phase = 2
    · exact makesTurns_encode hrun (sequence_spiRdLo hop h2) (.one (.readLow hop h2 _)) rfl
    by_cases h3 : s.phase = 3
    · exact makesTurns_encode hrun (sequence_spiRdData hop h3) (.one (.readData hop h3)) rfl
    · exact absurd (by simp only [sequence, hop, spiReadMove, if_neg h01, if_neg h2, if_neg h3]; rfl) htable

/-- Where a phase passes, the next phase of the same operation comes. -/
theorem phaseStep_passed {k : BitVec 4} {r : Request} {fail : Status → State → State} {t : State}
    (h : phaseStep k r fail s = .passed t) :
    replyStatus r (nextReply s) = .ok ∧ t = { answeredCall k r s with phase := k + 1 } := by
  rcases phaseStep_cases k r fail s with ⟨-, hc⟩ | ⟨-, hok, hc⟩ | ⟨-, -, hc⟩
  · cases hc.symm.trans h
  · exact ⟨hok, (Flow.passed.inj (hc.symm.trans h)).symm⟩
  · cases hc.symm.trans h

theorem phaseStep_passed_op_phase {k : BitVec 4} {r : Request} {fail : Status → State → State} {t : State}
    (h : phaseStep k r fail s = .passed t) : t.argOp = s.argOp ∧ t.phase = k + 1 := by
  obtain ⟨-, rfl⟩ := phaseStep_passed h
  exact ⟨answeredCall_argOp k r s, rfl⟩

/-- A frame turn is a row of the turns that send the frame; where none begins it is a phase's. -/
theorem sequenceFrame_makesTurns (hrun : s.engine = .running) :
    sequenceFrame s = sequence s ∨ ∃ n, n ≤ 3 ∧ MakesTurns n (sequenceFrame s) s := by
  by_cases hwe : s.argOp = 2 ∧ (s.phase = 0 ∨ s.phase = 1)
  · obtain ⟨hop, hphase⟩ := hwe
    exact .inr ⟨1, by decide, makesTurns_encode hrun (sequenceFrame_writeEnable hop hphase)
      (.one (.writeEnable hop hphase)) rfl⟩
  by_cases hwr : s.argOp = 2 ∧ s.phase = 2
  · obtain ⟨hop, hphase⟩ := hwr
    refine .inr ⟨3, by decide, makesTurns_encode hrun (sequenceFrame_write hop hphase) ?_ rfl⟩
    refine .row (.writeOpcode hop hphase _) fun t ht => ?_
    obtain ⟨hopt, hphaset⟩ := phaseStep_passed_op_phase ht
    refine .row (.writeLow (hopt.trans hop) hphaset _) fun u hu => ?_
    obtain ⟨hopu, hphaseu⟩ := phaseStep_passed_op_phase hu
    exact .one (.writeData ((hopu.trans hopt).trans hop) hphaseu _ _)
  by_cases hwd : s.argOp = 2 ∧ s.phase = 7
  · obtain ⟨hop, hphase⟩ := hwd
    exact .inr ⟨1, by decide, makesTurns_encode hrun (sequenceFrame_writeDisable hop hphase)
      (.one (.writeDisable hop hphase)) rfl⟩
  by_cases hrd : s.argOp = 3 ∧ (s.phase = 0 ∨ s.phase = 1)
  · obtain ⟨hop, hphase⟩ := hrd
    refine .inr ⟨3, by decide, makesTurns_encode hrun (sequenceFrame_read hop hphase) ?_ rfl⟩
    refine .row (.readOpcode hop hphase _) fun t ht => ?_
    obtain ⟨hopt, hphaset⟩ := phaseStep_passed_op_phase ht
    refine .row (.readLow (hopt.trans hop) hphaset _) fun u hu => ?_
    obtain ⟨hopu, hphaseu⟩ := phaseStep_passed_op_phase hu
    exact .one (.readData ((hopu.trans hopt).trans hop) hphaseu)
  · exact .inl (sequenceFrame_eq_sequence (by tauto) (by tauto))

/-- The environment gives the engine the turn, or leaves it to it. -/
def EngineHasTurn (s : State) : Prop :=
  s.inputs = [] ∨ (∃ rest, s.inputs = .engine :: rest) ∨ ∃ rest, s.inputs = .engineFrame :: rest

/-- The state in which the engine takes its turn: the move that gave it is used up. -/
def turnStart (s : State) : State :=
  { s with inputs := s.inputs.tail }

/-- On its turn a running engine makes one turn, or on a frame turn up to three, but where `PHASE` is out of
the operation's table. -/
theorem step_turns (hrun : s.engine = .running) (hturn : EngineHasTurn s) :
    (sequence s = .outOfTable ∧ step s = .fault .phaseOutOfTable) ∨
    ∃ n f, n ≤ 3 ∧ ((∀ rest, s.inputs ≠ .engineFrame :: rest) → n ≤ 1) ∧ Turns n (turnStart s) f ∧
      step s = flowOutcome f := by
  have hrun' : (turnStart s).engine = .running := hrun
  have hphase : step s = outcomeOf (engineTurn (sequence s) (turnStart s)) →
      (sequence s = .outOfTable ∧ step s = .fault .phaseOutOfTable) ∨
      ∃ f, Turns 1 (turnStart s) f ∧ step s = flowOutcome f := by
    intro hstep
    rcases sequence_makesTurns hrun' with htable | ⟨f, hf, hout⟩
    · refine .inl ⟨htable, ?_⟩
      rw [hstep, show sequence s = .outOfTable from htable, engineTurn, hrun']
      rfl
    · exact .inr ⟨f, hf, hstep.trans hout⟩
  rcases hturn with hin | ⟨rest, hin⟩ | ⟨rest, hin⟩
  · have hstart : turnStart s = s := by rw [turnStart, hin, List.tail_nil, ← hin]
    refine (hphase ?_).imp_right fun ⟨f, hf, hout⟩ => ⟨1, f, by decide, fun _ => le_rfl, hf, hout⟩
    rw [hstart, step_of_no_input hin]
  · refine (hphase ?_).imp_right fun ⟨f, hf, hout⟩ => ⟨1, f, by decide, fun _ => le_rfl, hf, hout⟩
    rw [step_of_engine hin, turnStart, hin, List.tail_cons]
  · have hstep : step s = outcomeOf (engineTurn (sequenceFrame s) (turnStart s)) := by
      rw [step_of_engineFrame hin, turnStart, hin, List.tail_cons]
    rcases sequenceFrame_makesTurns hrun' with hseq | ⟨n, hn, f, hf, hout⟩
    · rw [show sequenceFrame s = sequence s from hseq] at hstep
      exact (hphase hstep).imp_right fun ⟨f, hf, hout⟩ => ⟨1, f, by decide, fun _ => le_rfl, hf, hout⟩
    · exact .inr ⟨n, f, hn, fun h => absurd hin (h rest), hf, hstep.trans hout⟩

/-! ## What every row of turns does -/

theorem Turns.moves {n : Nat} {f : Flow} (h : Turns n s f) :
    FlowAll (MovesUpTo (busOf s.argOp) n s) f := by
  induction h with
  | one h =>
    obtain ⟨F, hF, rfl⟩ := h.busFlow
    exact hF.moves _
  | row hf hg ih =>
    rename_i n s f g
    obtain ⟨F, hF, rfl⟩ := hf.busFlow
    have hfirst := hF.moves s
    cases hc : F s with
    | stuck => trivial
    | stopped t =>
      rw [hc] at hfirst
      obtain ⟨m, hm, hmoves⟩ := hfirst
      exact ⟨m, by omega, hmoves⟩
    | passed t =>
      rw [hc] at hfirst
      obtain ⟨m, hm, hmoves⟩ := hfirst
      have hop : t.argOp = s.argOp := congrArg (·.1) hmoves.operandsOf_eq
      refine (ih t hc).mono fun u ⟨l, hl, hmoves'⟩ => ⟨m + l, by omega, ?_⟩
      rw [hop] at hmoves'
      exact hmoves.row hmoves'

theorem Turns.eq_stuck {n : Nat} {f : Flow} (h : Turns n s f) (hhang : (nextReply s).returns = false) :
    f = .stuck := by
  cases h with
  | one h =>
    obtain ⟨F, hF, rfl⟩ := h.busFlow
    exact hF.eq_stuck hhang
  | row hf hg =>
    obtain ⟨F, hF, rfl⟩ := hf.busFlow
    rw [hF.eq_stuck hhang]
    rfl

end

/-- Settles O38: no phase, frame or turn writes an operand, and a turn uses up its move. -/
theorem phasesLeaveTheOperandsAlone : Obligations.PhasesLeaveTheOperandsAlone := by
  refine ⟨fun i s t hcommand h => ?_, fun s t hrun hstep hturn => ?_⟩
  · have hkeep := exec_keepsOperands hcommand h
    simp only [operandsOf, Prod.mk.injEq] at hkeep
    exact hkeep
  · rcases step_turns hrun hturn with ⟨-, hfault⟩ | ⟨n, f, -, -, hf, hout⟩
    · cases hfault.symm.trans hstep
    · obtain ⟨m, -, hmoves⟩ := hf.moves.of_outcome (hout.symm.trans hstep)
      have hkeep := hmoves.operandsOf_eq
      simp only [operandsOf, Prod.mk.injEq] at hkeep
      exact hkeep

/-- Settles O42: a first call that never returns stops a phase, a frame and a turn in its flow. -/
theorem hungCallHasNoNextState : Obligations.HungCallHasNoNextState := by
  refine ⟨fun i s hcommand hhang => ?_, fun s hrun htable hhang hturn => ?_⟩
  · obtain ⟨bus, n, f, -, hf, hexec⟩ := exec_eq_flow hcommand
    rw [hexec, hf.eq_stuck hhang]
    rfl
  · rcases step_turns hrun hturn with ⟨hout, -⟩ | ⟨n, f, -, -, hf, hout⟩
    · exact absurd hout htable
    · rw [hout, hf.eq_stuck (s := turnStart s) hhang]
      rfl

/-! ## The phases of an operation in progress -/

/-- The most calls that an operation in progress can still make, by operation and phase (70_reset R217). -/
def callsLeft (s : State) : Nat :=
  if s.argOp = 0 then
    if s.phase = 2 then s.params.i2cRetryBudget - s.retry.toNat else 1 + s.params.i2cRetryBudget
  else if s.argOp = 1 then if s.phase = 2 then 1 else 2
  else if s.argOp = 2 then
    if s.phase = 0 then 7 + s.params.spiBusyBudget
    else if s.phase = 5 ∧ s.polling then 2 + (s.params.spiBusyBudget - s.retry.toNat)
    else if s.phase = 6 then 2
    else if s.phase = 7 then 1
    else 8 - s.phase.toNat + s.params.spiBusyBudget
  else if s.phase = 0 then 3 else 4 - s.phase.toNat

/-- The part of the invariant that the engine's own registers are in. -/
def RegistersInv (s : State) : Prop :=
  SequencerInv s ∧ ResultInv s

/-- Where a turn of an operation in progress leads: to the end of the operation with a result, or on with
fewer calls left. -/
def TurnLeads (s : State) : Flow → Prop
  | .stuck => True
  | .stopped t => RegistersInv t ∧ t.engine = .idle ∧ t.resDone = true ∧ 1 ≤ callsLeft s
  | .passed t => RegistersInv t ∧ t.engine = .running ∧ callsLeft t + 1 ≤ callsLeft s

theorem turnLeads_callThen {s : State} {k : BitVec 4} {r : Request} {answered : Status → State → Flow}
    (h : TurnLeads s (answered (replyStatus r (nextReply s)) (answeredCall k r s))) :
    TurnLeads s (callThen k r answered s) := by
  rcases callThen_cases k r answered s with ⟨-, hc⟩ | ⟨-, hc⟩ <;> rw [hc]
  · trivial
  · exact h

/-- The operand registers' part of the invariant is a matter of the operand registers alone. -/
theorem operandInv_of_operandsOf_eq {s t : State} (h : operandsOf t = operandsOf s) (hs : OperandInv s) :
    OperandInv t := by
  simp only [operandsOf, Prod.mk.injEq] at h
  obtain ⟨hop, hdev, hloc, haddr, hdata, -⟩ := h
  unfold OperandInv
  rw [hop, hdev, hloc, haddr, hdata]
  exact hs

/-- An operation that goes on keeps the invariant where its sequencing registers do. -/
theorem registersInv_of_running {t : State} (hseq : SequencerInv t) (hdone : t.resDone = false) :
    RegistersInv t :=
  ⟨hseq, fun h => by rw [hdone] at h; cases h⟩

/-- What the result of each operation must be (41_i2c_engine R126, 42_spi_engine R151, R157). -/
def ResultFits (p : Params) (op : BitVec 2) (st : Status) (data : DataWord) (busy : Bool)
    (retries : BitVec 8) : Prop :=
  (op = 0 → busy = false ∧ data = 0 ∧
    ((st = .ok ∧ 0 < retries.toNat ∧ retries.toNat ≤ p.i2cRetryBudget) ∨
      (st ≠ .ok ∧ (retries = 0 ∨ retries.toNat = p.i2cRetryBudget)))) ∧
  (op = 1 ∨ op = 3 → busy = false ∧ retries = 0) ∧
  (op = 2 → data = 0 ∧ retries.toNat ≤ p.spiBusyBudget ∧
    (st = .ok → 0 < retries.toNat ∧ (busy = true → retries.toNat = p.spiBusyBudget)))

theorem Status.code_eq_ok (st : Status) : st.code = Status.ok.code ↔ st = .ok := by
  cases st <;> simp [Status.code]

/-- The end of an operation keeps the invariant where the result is as its rules say. -/
theorem registersInv_finish {st : Status} {data : DataWord} {busy : Bool} {retries : BitVec 8} {t : State}
    (hresult : ResultFits t.params t.argOp st data busy retries) :
    RegistersInv (finish st data busy retries t) := by
  obtain ⟨hwrite, hread, hspi⟩ := hresult
  refine ⟨⟨nofun, nofun⟩, fun _ => ⟨rfl, fun hop => ?_, hread, fun hop => ?_⟩⟩
  · simpa [Status.code_eq_ok] using hwrite hop
  · simpa [Status.code_eq_ok] using hspi hop

/-! ## The sequencing registers operation by operation -/

section

variable {t : State}

theorem sequencerInv_i2cWrite (hop : t.argOp = 0) (hdone : t.resDone = false) (hpoll : t.polling = false)
    (hbusy : t.busyLast = false) (hphase : (t.phase.toNat ≤ 1 ∧ t.retry = 0) ∨
      (t.phase = 2 ∧ t.retry.toNat < t.params.i2cRetryBudget)) : SequencerInv t :=
  ⟨fun h => by simp [hpoll] at h, fun _ => ⟨hdone, fun _ => ⟨hbusy, hphase⟩, fun h => by simp [hop] at h,
    fun h => by simp [hop] at h, fun h => by simp [hop] at h⟩⟩

theorem sequencerInv_i2cRead (hop : t.argOp = 1) (hdone : t.resDone = false) (hpoll : t.polling = false)
    (hbusy : t.busyLast = false) (hretry : t.retry = 0) (hphase : t.phase.toNat ≤ 2) : SequencerInv t :=
  ⟨fun h => by simp [hpoll] at h, fun _ => ⟨hdone, fun h => by simp [hop] at h,
    fun _ => ⟨hphase, hretry, hbusy⟩, fun h => by simp [hop] at h, fun h => by simp [hop] at h⟩⟩

theorem sequencerInv_spiRead (hop : t.argOp = 3) (hdone : t.resDone = false) (hpoll : t.polling = false)
    (hbusy : t.busyLast = false) (hretry : t.retry = 0) (hphase : t.phase.toNat ≤ 3) : SequencerInv t :=
  ⟨fun h => by simp [hpoll] at h, fun _ => ⟨hdone, fun h => by simp [hop] at h,
    fun h => by simp [hop] at h, fun h => by simp [hop] at h, fun _ => ⟨hphase, hretry, hbusy⟩⟩⟩

/-- What the polls of step 5 make of `RETRY` and `BUSYLAST`, by the phase of `SPI_WRITE_WORD`. -/
def SpiWriteProgress (t : State) : Prop :=
  (t.phase.toNat ≤ 5 ∧ t.polling = false ∧ t.retry = 0 ∧ t.busyLast = false) ∨
  (t.phase = 5 ∧ t.polling = true ∧ t.retry.toNat < t.params.spiBusyBudget ∧
    (t.retry = 0 → t.busyLast = false)) ∨
  ((t.phase = 6 ∨ t.phase = 7) ∧ 0 < t.retry.toNat ∧ t.retry.toNat ≤ t.params.spiBusyBudget ∧
    (t.busyLast = true → t.retry.toNat = t.params.spiBusyBudget))

theorem sequencerInv_spiWrite (hop : t.argOp = 2) (hrun : t.engine = .running) (hdone : t.resDone = false)
    (hpoll : t.polling = true → t.phase = 5) (h : SpiWriteProgress t) : SequencerInv t :=
  ⟨fun hp => ⟨hrun, hop, hpoll hp⟩, fun _ => ⟨hdone, fun h => by simp [hop] at h,
    fun h => by simp [hop] at h, fun _ => h, fun h => by simp [hop] at h⟩⟩

theorem SpiWriteProgress.retry_le (h : SpiWriteProgress t) : t.retry.toNat ≤ t.params.spiBusyBudget := by
  rcases h with ⟨-, -, hretry, -⟩ | ⟨-, -, hretry, -⟩ | ⟨-, -, hretry, -⟩
  · simp [hretry]
  · exact hretry.le
  · exact hretry

/-- The end of a read whose call failed keeps the invariant. -/
theorem registersInv_abortRead (hop : t.argOp = 1 ∨ t.argOp = 3) (e : Status) :
    RegistersInv (abortRead e t) := by
  refine registersInv_finish ⟨fun h => ?_, fun _ => ⟨rfl, rfl⟩, fun h => ?_⟩ <;>
    rcases hop with hop | hop <;> simp [hop] at h

/-- The end of an SPI write whose call failed keeps the invariant. -/
theorem registersInv_failSpiWrite (hop : t.argOp = 2) (hretry : t.retry.toNat ≤ t.params.spiBusyBudget)
    {e : Status} (he : e ≠ .ok) : RegistersInv (failSpiWrite e t) :=
  registersInv_finish ⟨fun h => by simp [hop] at h, fun h => by simp [hop] at h,
    fun _ => ⟨rfl, hretry, fun h => absurd h he⟩⟩

end

/-! ## Where each turn leads -/

section

variable {s : State}

/-- A poll more, in the register's own width. -/
theorem toNat_retry_succ {n : BitVec 8} {budget : Nat} (hlt : n.toNat < budget) (hle : budget ≤ 255) :
    (n + 1).toNat = n.toNat + 1 := by
  bv_omega

/-- A phase that goes on by one leads on where the registers do, and else to the end of the operation. -/
theorem leads_phaseStep {k : BitVec 4} {r : Request} {fail : Status → State → State}
    (hrun : s.engine = .running) (hdone : s.resDone = false)
    (hseq : SequencerInv { answeredCall k r s with phase := k + 1 })
    (hleft : callsLeft { answeredCall k r s with phase := k + 1 } + 1 ≤ callsLeft s)
    (hfail : ∀ e, e ≠ .ok → RegistersInv (fail e (answeredCall k r s)))
    (hend : ∀ e t, (fail e t).engine = .idle ∧ (fail e t).resDone = true) :
    TurnLeads s (phaseStep k r fail s) := by
  refine turnLeads_callThen ?_
  split
  · exact ⟨registersInv_of_running hseq (by simpa using hdone), by simpa using hrun, hleft⟩
  · rename_i he
    obtain ⟨hidle, hresult⟩ := hend (replyStatus r (nextReply s)) (answeredCall k r s)
    exact ⟨hfail _ he, hidle, hresult, by omega⟩

/-- The calls that `SPI_WRITE_WORD` can still make before its polls: the steps to come, and the budget. -/
theorem callsLeft_spiWrite (hop : s.argOp = 2) (hpoll : s.polling = false)
    (hphase : 1 ≤ s.phase.toNat ∧ s.phase.toNat ≤ 5) :
    callsLeft s = 8 - s.phase.toNat + s.params.spiBusyBudget := by
  have h0 : s.phase ≠ 0 := by rintro h; simp [h] at hphase
  have h6 : s.phase ≠ 6 := by rintro h; simp [h] at hphase
  have h7 : s.phase ≠ 7 := by rintro h; simp [h] at hphase
  simp only [callsLeft, hop, hpoll, if_neg h0, if_neg h6, if_neg h7]
  simp

theorem callsLeft_spiRead (hop : s.argOp = 3) (hphase : 1 ≤ s.phase.toNat) :
    callsLeft s = 4 - s.phase.toNat := by
  have h0 : s.phase ≠ 0 := by rintro h; simp [h] at hphase
  simp only [callsLeft, hop, if_neg h0]
  simp

/-- Only at step 5 of `SPI_WRITE_WORD` is the second sub-step set. -/
theorem polling_eq_false (hinv : Inv s) (h : ¬ (s.argOp = 2 ∧ s.phase = 5)) : s.polling = false := by
  obtain ⟨-, -, ⟨hpolling, -⟩, -⟩ := hinv
  refine Bool.eq_false_iff.2 fun hp => h ?_
  obtain ⟨-, hop, hphase⟩ := hpolling hp
  exact ⟨hop, hphase⟩

/-- The registers of a running `SPI_WRITE_WORD` at any phase but 5: before the polls, or after them. -/
theorem spiWriteProgress_of_inv (hinv : Inv s) (hrun : s.engine = .running) (hop : s.argOp = 2) :
    SpiWriteProgress s := by
  obtain ⟨-, -, ⟨-, hseq⟩, -⟩ := hinv
  obtain ⟨-, -, -, hspiWrite, -⟩ := hseq hrun
  exact hspiWrite hop

theorem resDone_of_running (hinv : Inv s) (hrun : s.engine = .running) : s.resDone = false := by
  obtain ⟨-, -, ⟨-, hseq⟩, -⟩ := hinv
  exact (hseq hrun).1

/-- A failing call ends a running `SPI_WRITE_WORD` with the polls made so far. -/
theorem registersInv_failSpiWrite_answeredCall (hinv : Inv s) (hrun : s.engine = .running) (hop : s.argOp = 2)
    (k : BitVec 4) (r : Request) {e : Status} (he : e ≠ .ok) :
    RegistersInv (failSpiWrite e (answeredCall k r s)) := by
  have hretry := (spiWriteProgress_of_inv hinv hrun hop).retry_le
  exact registersInv_failSpiWrite (by simpa using hop) (by simpa using hretry) he

theorem registersInv_abortRead_answeredCall (hop : s.argOp = 1 ∨ s.argOp = 3) (k : BitVec 4)
    (r : Request) (e : Status) : RegistersInv (abortRead e (answeredCall k r s)) :=
  registersInv_abortRead (by simpa using hop) e

/-- The first four steps of `SPI_WRITE_WORD`, each one call before the polls. -/
theorem leads_spiWriteStep {k : BitVec 4} {r : Request} (hinv : Inv s) (hrun : s.engine = .running)
    (hop : s.argOp = 2) (hphase : s.phase = k ∨ (s.phase = 0 ∧ k = 1)) (hk : 1 ≤ k.toNat ∧ k.toNat ≤ 4) :
    TurnLeads s (phaseStep k r failSpiWrite s) := by
  have hphase5 : s.phase ≠ 5 := by rintro h; rcases hphase with rfl | ⟨h', -⟩ <;> simp_all
  have hpoll : s.polling = false := polling_eq_false hinv fun h => hphase5 h.2
  have hnext : (k + 1).toNat = k.toNat + 1 := by bv_omega
  have hsix : s.phase ≠ 6 ∧ s.phase ≠ 7 := by
    constructor <;> rintro h <;> rcases hphase with rfl | ⟨h', -⟩ <;> simp_all
  have hbefore : s.retry = 0 ∧ s.busyLast = false := by
    rcases spiWriteProgress_of_inv hinv hrun hop with ⟨-, -, h⟩ | ⟨h, -⟩ | ⟨h | h, -⟩
    · exact h
    · exact absurd h hphase5
    · exact absurd h hsix.1
    · exact absurd h hsix.2
  obtain ⟨hretry, hbusyLast⟩ := hbefore
  have hdone := resDone_of_running hinv hrun
  refine leads_phaseStep hrun hdone ?_ ?_
    (fun e he => registersInv_failSpiWrite_answeredCall hinv hrun hop k r he) fun _ _ => ⟨rfl, rfl⟩
  · refine sequencerInv_spiWrite (by simpa using hop) (by simpa using hrun) (by simpa using hdone) ?_ ?_
    · simp [hpoll]
    · refine .inl ⟨?_, by simpa using hpoll, by simpa using hretry, by simpa using hbusyLast⟩
      show (k + 1).toNat ≤ 5
      omega
  · have hleft := callsLeft_spiWrite (s := { answeredCall k r s with phase := k + 1 }) (by simpa using hop)
      (by simpa using hpoll) (by dsimp only; omega)
    refine (congrArg (· + 1) hleft).le.trans ?_
    simp only [answeredCall_params, hnext]
    rcases hphase with rfl | ⟨hphase, rfl⟩
    · rw [callsLeft_spiWrite hop hpoll (by omega)]
      omega
    · simp [callsLeft, hop, hphase]

/-- The first two phases of `SPI_READ_WORD`. -/
theorem leads_spiReadStep {k : BitVec 4} {r : Request} (hinv : Inv s) (hrun : s.engine = .running)
    (hop : s.argOp = 3) (hphase : s.phase = k ∨ (s.phase = 0 ∧ k = 1)) (hk : 1 ≤ k.toNat ∧ k.toNat ≤ 2) :
    TurnLeads s (phaseStep k r abortRead s) := by
  have hpoll : s.polling = false := polling_eq_false hinv fun h => by simp [hop] at h
  have hdone := resDone_of_running hinv hrun
  have hregs : s.retry = 0 ∧ s.busyLast = false := by
    obtain ⟨-, -, ⟨-, hseq⟩, -⟩ := hinv
    obtain ⟨-, -, -, -, hread⟩ := hseq hrun
    exact (hread hop).2
  obtain ⟨hretry, hbusyLast⟩ := hregs
  have hnext : (k + 1).toNat = k.toNat + 1 := by bv_omega
  refine leads_phaseStep hrun hdone ?_ ?_
    (fun e _ => registersInv_abortRead_answeredCall (.inr hop) k r e) fun _ _ => ⟨rfl, rfl⟩
  · refine sequencerInv_spiRead (by simpa using hop) (by simpa using hdone) (by simpa using hpoll)
      (by simpa using hbusyLast) (by simpa using hretry) ?_
    show (k + 1).toNat ≤ 3
    omega
  · have hleft := callsLeft_spiRead (s := { answeredCall k r s with phase := k + 1 }) (by simpa using hop)
      (by dsimp only; omega)
    refine (congrArg (· + 1) hleft).le.trans ?_
    simp only [hnext]
    rcases hphase with rfl | ⟨hphase, rfl⟩
    · rw [callsLeft_spiRead hop hk.1]
      omega
    · simp [callsLeft, hop, hphase]

/-- An address-only poll: acknowledged, out of budget, or one more to come. -/
theorem leads_poll (hinv : Inv s) (hrun : s.engine = .running) (hop : s.argOp = 0) (hphase : s.phase = 2) :
    TurnLeads s (pollFlow s.slave s.reg s) := by
  have hpoll : s.polling = false := polling_eq_false hinv fun h => by simp [hop] at h
  have hdone := resDone_of_running hinv hrun
  obtain ⟨⟨hparams, -⟩, -, ⟨-, hseq⟩, -⟩ := id hinv
  obtain ⟨-, hwrite, -⟩ := hseq hrun
  obtain ⟨hbusyLast, hregs⟩ := hwrite hop
  have hretry : s.retry.toNat < s.params.i2cRetryBudget := by
    rcases hregs with ⟨hle, -⟩ | ⟨-, hlt⟩
    · simp [hphase] at hle
    · exact hlt
  have hbudget : s.params.i2cRetryBudget ≤ 255 := ((params_wf_iff s.params).1 hparams).1.2
  have hsucc := toNat_retry_succ hretry hbudget
  have hcalls : callsLeft s = s.params.i2cRetryBudget - s.retry.toNat := by simp [callsLeft, hop, hphase]
  have hfits {e : Status} (h : (e = .ok ∧ 0 < (s.retry + 1).toNat ∧
        (s.retry + 1).toNat ≤ s.params.i2cRetryBudget) ∨
      (e ≠ .ok ∧ (s.retry + 1 = 0 ∨ (s.retry + 1).toNat = s.params.i2cRetryBudget))) :
      ResultFits s.params s.argOp e 0 false (s.retry + 1) :=
    ⟨fun _ => ⟨rfl, rfl, h⟩, fun h => by simp [hop] at h, fun h => by simp [hop] at h⟩
  refine turnLeads_callThen ?_
  simp only [pollAnswered, answeredCall_retry, answeredCall_params]
  split
  · rename_i hok
    refine ⟨registersInv_finish ?_, rfl, rfl, by omega⟩
    simpa using hfits (e := .ok) (.inl ⟨rfl, by omega, by omega⟩)
  · rename_i he
    split
    · rename_i hlast
      refine ⟨registersInv_finish ?_, rfl, rfl, by omega⟩
      simpa using hfits (.inr ⟨he, .inr hlast⟩)
    · rename_i hlast
      refine ⟨registersInv_of_running (sequencerInv_i2cWrite ?_ ?_ ?_ ?_ (.inr ⟨?_, ?_⟩)) ?_, ?_, ?_⟩
      · simpa using hop
      · simpa using hdone
      · simpa using hpoll
      · simpa using hbusyLast
      · simp
      · dsimp only
        omega
      · simpa using hdone
      · simpa using hrun
      · rw [hcalls]
        simp only [callsLeft, answeredCall_argOp, hop, answeredCall_phase, if_true]
        omega

/-- The primary write: the end of the operation, or the first poll to come. -/
theorem leads_primary (hinv : Inv s) (hrun : s.engine = .running) (hop : s.argOp = 0)
    (hphase : s.phase = 0 ∨ s.phase = 1) (data : Byte) :
    TurnLeads s (primaryFlow s.slave s.reg data s) := by
  have hpoll : s.polling = false := polling_eq_false hinv fun h => by simp [hop] at h
  have hdone := resDone_of_running hinv hrun
  obtain ⟨⟨hparams, -⟩, -, ⟨-, hseq⟩, -⟩ := id hinv
  obtain ⟨-, hwrite, -⟩ := hseq hrun
  obtain ⟨hbusyLast, -⟩ := hwrite hop
  have hbudget : 0 < s.params.i2cRetryBudget := ((params_wf_iff s.params).1 hparams).1.1
  have hcalls : callsLeft s = 1 + s.params.i2cRetryBudget := by
    rcases hphase with hphase | hphase <;> simp [callsLeft, hop, hphase]
  refine turnLeads_callThen ?_
  unfold primaryAnswered
  split
  · rename_i he
    refine ⟨registersInv_finish ⟨fun _ => ⟨rfl, rfl, .inr ⟨he.1, .inl rfl⟩⟩, fun _ => ⟨rfl, rfl⟩,
      fun h => ?_⟩, rfl, rfl, by omega⟩
    simp [hop] at h
  · refine ⟨registersInv_of_running (sequencerInv_i2cWrite ?_ ?_ ?_ ?_ (.inr ⟨rfl, ?_⟩)) ?_, ?_, ?_⟩
    · simpa using hop
    · simpa using hdone
    · simpa using hpoll
    · simpa using hbusyLast
    · simpa using hbudget
    · simpa using hdone
    · simpa using hrun
    · rw [hcalls]
      simp [callsLeft, hop, Nat.add_comm]

/-- The strobe: the first ready-line poll to come. -/
theorem leads_strobe (hinv : Inv s) (hrun : s.engine = .running) (hop : s.argOp = 2) (hphase : s.phase = 5)
    (hpoll : s.polling = false) : TurnLeads s (strobeFlow s) := by
  have hdone := resDone_of_running hinv hrun
  have hbudget : 0 < s.params.spiBusyBudget := ((params_wf_iff s.params).1 hinv.1.1).2.1.1
  have hcalls : callsLeft s = 3 + s.params.spiBusyBudget := by
    rw [callsLeft_spiWrite hop hpoll (by simp [hphase]), hphase]
    rfl
  have hbusyLast : s.busyLast = false := by
    rcases spiWriteProgress_of_inv hinv hrun hop with ⟨-, -, -, h⟩ | ⟨-, h, -⟩ | ⟨h, -⟩
    · exact h
    · simp [hpoll] at h
    · simp [hphase] at h
  refine turnLeads_callThen ?_
  split
  · refine ⟨registersInv_of_running (sequencerInv_spiWrite ?_ ?_ ?_ ?_ (.inr (.inl ⟨?_, rfl, ?_, ?_⟩))) ?_,
      ?_, ?_⟩
    · simpa using hop
    · simpa using hrun
    · simpa using hdone
    · simp
    · simp
    · simpa using hbudget
    · simpa using hbusyLast
    · simpa using hdone
    · simpa using hrun
    · rw [hcalls]
      simp [callsLeft, hop]
  · rename_i he
    exact ⟨registersInv_failSpiWrite_answeredCall hinv hrun hop _ _ he, rfl, rfl, by omega⟩

/-- A ready-line poll: one more to come, or the release. -/
theorem leads_isBusy (hinv : Inv s) (hrun : s.engine = .running) (hop : s.argOp = 2) (hphase : s.phase = 5)
    (hpoll : s.polling = true) : TurnLeads s (busyFlow s) := by
  have hdone := resDone_of_running hinv hrun
  have hbudget : s.params.spiBusyBudget ≤ 255 := ((params_wf_iff s.params).1 hinv.1.1).2.1.2
  have hretry : s.retry.toNat < s.params.spiBusyBudget := by
    rcases spiWriteProgress_of_inv hinv hrun hop with ⟨-, h, -⟩ | ⟨-, -, h, -⟩ | ⟨h, -⟩
    · simp [hpoll] at h
    · exact h
    · simp [hphase] at h
  have hsucc := toNat_retry_succ hretry hbudget
  have hcalls : callsLeft s = 2 + (s.params.spiBusyBudget - s.retry.toNat) := by
    simp [callsLeft, hop, hphase, hpoll]
  unfold busyFlow
  split
  · split
    · split
      · rename_i hmore
        refine ⟨registersInv_of_running (sequencerInv_spiWrite hop hrun hdone (fun _ => hphase)
          (.inr (.inl ⟨hphase, hpoll, hmore.2, fun h => ?_⟩))) hdone, hrun, ?_⟩
        · rw [show s.retry + 1 = 0 from h] at hsucc
          simp at hsucc
        · rw [hcalls]
          simp [callsLeft, busySampled, hop, hphase, hpoll]
          omega
      · rename_i hlast
        refine ⟨registersInv_of_running (sequencerInv_spiWrite hop hrun hdone nofun
          (.inr (.inr ⟨.inl rfl, ?_, ?_, fun hbusy => ?_⟩))) hdone, hrun, ?_⟩
        · show 0 < (s.retry + 1).toNat
          omega
        · show (s.retry + 1).toNat ≤ s.params.spiBusyBudget
          omega
        · show (s.retry + 1).toNat = s.params.spiBusyBudget
          have hbusy : (nextReply s).busy = true := hbusy
          have : ¬ (s.retry + 1).toNat < s.params.spiBusyBudget := fun h => hlast ⟨hbusy, h⟩
          omega
        · rw [hcalls]
          simp [callsLeft, busySampled, hop]
          omega
    · rename_i he
      refine ⟨registersInv_failSpiWrite (t := afterIsBusy (nextReply s) s) hop ?_ he, rfl, rfl, by omega⟩
      show (s.retry + 1).toNat ≤ s.params.spiBusyBudget
      omega
  · trivial

/-- After the polls `RETRY` counts them, and a device last seen busy has used up the budget. -/
theorem after_polls (hinv : Inv s) (hrun : s.engine = .running) (hop : s.argOp = 2)
    (hphase : s.phase = 6 ∨ s.phase = 7) : 0 < s.retry.toNat ∧ s.retry.toNat ≤ s.params.spiBusyBudget ∧
      (s.busyLast = true → s.retry.toNat = s.params.spiBusyBudget) := by
  rcases spiWriteProgress_of_inv hinv hrun hop with ⟨h, -⟩ | ⟨h, -⟩ | ⟨-, h⟩
  · rcases hphase with hphase | hphase <;> simp [hphase] at h
  · rcases hphase with hphase | hphase <;> simp [hphase] at h
  · exact h

theorem leads_release (hinv : Inv s) (hrun : s.engine = .running) (hop : s.argOp = 2)
    (hphase : s.phase = 6) : TurnLeads s (phaseStep 6 .spiRelease failSpiWrite s) := by
  have hdone := resDone_of_running hinv hrun
  have hpoll : s.polling = false := polling_eq_false hinv fun h => by simp [hphase] at h
  refine leads_phaseStep hrun hdone (sequencerInv_spiWrite ?_ ?_ ?_ ?_ (.inr (.inr ⟨.inr rfl, ?_⟩))) ?_
    (fun e he => registersInv_failSpiWrite_answeredCall hinv hrun hop _ _ he) fun _ _ => ⟨rfl, rfl⟩
  · simpa using hop
  · simpa using hrun
  · simpa using hdone
  · simp [hpoll]
  · simpa using after_polls hinv hrun hop (.inl hphase)
  · simp [callsLeft, hop, hphase]

theorem leads_writeDisable (hinv : Inv s) (hrun : s.engine = .running) (hop : s.argOp = 2)
    (hphase : s.phase = 7) : TurnLeads s (writeDisableFlow .spiWd s) := by
  obtain ⟨hpos, hle, hlast⟩ := after_polls hinv hrun hop (.inr hphase)
  have hcalls : 1 ≤ callsLeft s := by simp [callsLeft, hop, hphase]
  refine turnLeads_callThen ?_
  dsimp only [TurnLeads]
  split
  · refine ⟨registersInv_finish ⟨fun h => ?_, fun h => ?_, fun _ => ⟨rfl, ?_, fun _ => ⟨?_, ?_⟩⟩⟩,
      rfl, rfl, hcalls⟩
    · simp [hop] at h
    · simp [hop] at h
    · simpa using hle
    · simpa using hpos
    · simpa using hlast
  · rename_i he
    exact ⟨registersInv_failSpiWrite_answeredCall hinv hrun hop _ _ he, rfl, rfl, hcalls⟩

/-- The write phase of an I2C read: the read phase to come. -/
theorem leads_setup (hinv : Inv s) (hrun : s.engine = .running) (hop : s.argOp = 1)
    (hphase : s.phase = 0 ∨ s.phase = 1) :
    TurnLeads s (phaseStep 1 (.i2cSetup s.slave s.reg) abortRead s) := by
  have hpoll : s.polling = false := polling_eq_false hinv fun h => by simp [hop] at h
  have hdone := resDone_of_running hinv hrun
  obtain ⟨-, -, ⟨-, hseq⟩, -⟩ := id hinv
  obtain ⟨-, -, hread, -⟩ := hseq hrun
  obtain ⟨-, hretry, hbusyLast⟩ := hread hop
  refine leads_phaseStep hrun hdone ?_ ?_
    (fun e _ => registersInv_abortRead_answeredCall (.inl hop) _ _ e) fun _ _ => ⟨rfl, rfl⟩
  · exact sequencerInv_i2cRead (by simpa using hop) (by simpa using hdone) (by simpa using hpoll)
      (by simpa using hbusyLast) (by simpa using hretry) le_rfl
  · rcases hphase with hphase | hphase <;> simp [callsLeft, hop, hphase]

/-- The last call of a read ends the operation, whatever its answer. -/
theorem leads_i2cRead (hop : s.argOp = 1) (hphase : s.phase = 2) :
    TurnLeads s (i2cReadFlow s.slave s) := by
  have hcalls : 1 ≤ callsLeft s := by simp [callsLeft, hop, hphase]
  refine turnLeads_callThen ?_
  dsimp only [TurnLeads]
  split
  · refine ⟨registersInv_finish ⟨fun h => ?_, fun _ => ⟨rfl, rfl⟩, fun h => ?_⟩, rfl, rfl, hcalls⟩ <;>
      simp [hop] at h
  · exact ⟨registersInv_abortRead_answeredCall (.inl hop) _ _ _, rfl, rfl, hcalls⟩

theorem leads_readData (hop : s.argOp = 3) (hphase : s.phase = 3) :
    TurnLeads s (readDataFlow s) := by
  have hcalls : 1 ≤ callsLeft s := by simp [callsLeft, hop, hphase]
  refine turnLeads_callThen ?_
  dsimp only [TurnLeads]
  split
  · refine ⟨registersInv_finish ⟨fun h => ?_, fun _ => ⟨rfl, rfl⟩, fun h => ?_⟩, rfl, rfl, hcalls⟩ <;>
      simp [hop] at h
  · exact ⟨registersInv_abortRead_answeredCall (.inr hop) _ _ _, rfl, rfl, hcalls⟩

/-- Everything a turn can lead to: the invariant kept, and fewer calls left or the end with a result. -/
theorem Turn.leads {f : Flow} (h : Turn s f) (hinv : Inv s) (hrun : s.engine = .running) :
    TurnLeads s f := by
  cases h with
  | primary hop hphase data => exact leads_primary hinv hrun hop hphase data
  | poll hop hphase => exact leads_poll hinv hrun hop hphase
  | setup hop hphase => exact leads_setup hinv hrun hop hphase
  | i2cRead hop hphase => exact leads_i2cRead hop hphase
  | writeEnable hop hphase =>
    exact leads_spiWriteStep hinv hrun hop (hphase.symm.imp_right fun h => ⟨h, rfl⟩) (by decide)
  | writeOpcode hop hphase a => exact leads_spiWriteStep hinv hrun hop (.inl hphase) (by decide)
  | writeLow hop hphase b => exact leads_spiWriteStep hinv hrun hop (.inl hphase) (by decide)
  | writeData hop hphase lo hi => exact leads_spiWriteStep hinv hrun hop (.inl hphase) (by decide)
  | strobe hop hphase hpoll => exact leads_strobe hinv hrun hop hphase hpoll
  | isBusy hop hphase hpoll => exact leads_isBusy hinv hrun hop hphase hpoll
  | release hop hphase => exact leads_release hinv hrun hop hphase
  | writeDisable hop hphase => exact leads_writeDisable hinv hrun hop hphase
  | readOpcode hop hphase a =>
    exact leads_spiReadStep hinv hrun hop (hphase.symm.imp_right fun h => ⟨h, rfl⟩) (by decide)
  | readLow hop hphase b => exact leads_spiReadStep hinv hrun hop (.inl hphase) (by decide)
  | readData hop hphase => exact leads_readData hop hphase

/-- A running operation has a call to make. -/
theorem callsLeft_pos (hinv : Inv s) (hrun : s.engine = .running) : 1 ≤ callsLeft s := by
  obtain ⟨-, -, ⟨-, hseq⟩, -⟩ := id hinv
  obtain ⟨-, hi2cWrite, -, -, hspiRead⟩ := hseq hrun
  rcases op_cases s with hop | hop | hop | hop
  · obtain ⟨-, ⟨hphase, -⟩ | ⟨-, hretry⟩⟩ := hi2cWrite hop
    · have h2 : s.phase ≠ 2 := by rintro h; simp [h] at hphase
      simp only [callsLeft, hop, if_true, if_neg h2]
      omega
    · simp only [callsLeft, hop, if_true]
      split <;> omega
  · simp only [callsLeft, if_pos hop, if_neg (show s.argOp ≠ 0 by simp [hop])]
    split <;> omega
  · rcases spiWriteProgress_of_inv hinv hrun hop with
      ⟨hphase, hpoll, -⟩ | ⟨hphase, hpoll, -⟩ | ⟨hphase | hphase, -⟩
    · by_cases h0 : s.phase = 0
      · simp [callsLeft, hop, h0]
        omega
      · have hpos : 1 ≤ s.phase.toNat := by
          rw [Nat.one_le_iff_ne_zero]
          exact fun h => h0 (BitVec.eq_of_toNat_eq h)
        rw [callsLeft_spiWrite hop hpoll ⟨hpos, hphase⟩]
        omega
    · simp [callsLeft, hop, hphase, hpoll]
      omega
    · simp [callsLeft, hop, hphase]
    · simp [callsLeft, hop, hphase]
  · obtain ⟨hphase, -⟩ := hspiRead hop
    by_cases h0 : s.phase.toNat = 0
    · simp [callsLeft, hop, show s.phase = 0 from BitVec.eq_of_toNat_eq h0]
    · rw [callsLeft_spiRead hop (by omega)]
      omega

theorem callsLeft_le_callBound (s : State) : callsLeft s ≤ callBound s := by
  have hpos {p : BitVec 4} (h : p ≠ 0) : 1 ≤ p.toNat := by
    rw [Nat.one_le_iff_ne_zero]
    exact fun h' => h (BitVec.eq_of_toNat_eq h')
  unfold callsLeft callBound
  split_ifs with h0 h2 h1 h2' hop hz hpoll h6 h7 hz' <;> try omega
  · have := hpos hz
    omega
  · have := hpos hz'
    omega

end

/-! ## How far a row of turns brings an operation -/

/-- A row of turns from `s` hangs in a call that the operation may still make, or makes calls and leads to the
end of the operation with a result, or on with that many calls fewer left. The invariant is kept. -/
def Progresses (n : Nat) (s : State) : Flow → Prop
  | .stuck => ∃ m, m < n ∧ m < callsLeft s ∧ (replyAt s m).returns = false
  | .stopped t => Inv t ∧ ∃ calls, Called calls s t ∧ 1 ≤ calls.length ∧ calls.length ≤ n ∧
      t.engine = .idle ∧ t.resDone = true ∧ calls.length ≤ callsLeft s
  | .passed t => Inv t ∧ ∃ calls, Called calls s t ∧ 1 ≤ calls.length ∧ calls.length ≤ n ∧
      t.engine = .running ∧ calls.length + callsLeft t ≤ callsLeft s

section

variable {s : State} {f : Flow}

/-- One turn's move: the parts of the invariant that are no matter of the engine's registers, and its call. -/
theorem inv_of_movesUpTo {bus : Bus} {t : State} (hinv : Inv s) (hmoves : MovesUpTo bus 1 s t)
    (hregs : RegistersInv t) : Inv t := by
  obtain ⟨hshape, hoperand, -⟩ := hinv
  obtain ⟨m, -, hmoves⟩ := hmoves
  exact ⟨hmoves.shapeInv hshape, operandInv_of_operandsOf_eq hmoves.operandsOf_eq hoperand, hregs⟩

theorem Moves.pos {bus : Bus} {n : Nat} {t : State} (h : Moves bus n s t) : 1 ≤ n := by
  induction h with
  | one => exact le_rfl
  | row _ _ ih => omega

theorem exists_call_of_movesUpTo {bus : Bus} {t : State} (hmoves : MovesUpTo bus 1 s t) :
    ∃ calls, Called calls s t ∧ calls.length = 1 := by
  obtain ⟨m, hm, hmoves⟩ := hmoves
  obtain ⟨calls, rfl, hcalled⟩ := hmoves.called
  exact ⟨calls, hcalled, le_antisymm hm hmoves.pos⟩

theorem Turn.progresses (h : Turn s f) (hinv : Inv s) (hrun : s.engine = .running) :
    Progresses 1 s f := by
  have hleads := h.leads hinv hrun
  obtain ⟨F, hF, rfl⟩ := h.busFlow
  have hmoves := hF.moves s
  cases hc : F s with
  | stuck =>
    obtain ⟨m, hm, hhang⟩ := hF.exists_hang hc
    exact ⟨m, hm, hm.trans_le (callsLeft_pos hinv hrun), hhang⟩
  | stopped t =>
    rw [hc] at hmoves hleads
    obtain ⟨hregs, hidle, hdone, hleft⟩ := hleads
    obtain ⟨calls, hcalled, hone⟩ := exists_call_of_movesUpTo hmoves
    exact ⟨inv_of_movesUpTo hinv hmoves hregs, calls, hcalled, hone.ge, hone.le, hidle, hdone, by omega⟩
  | passed t =>
    rw [hc] at hmoves hleads
    obtain ⟨hregs, hrun', hleft⟩ := hleads
    obtain ⟨calls, hcalled, hone⟩ := exists_call_of_movesUpTo hmoves
    exact ⟨inv_of_movesUpTo hinv hmoves hregs, calls, hcalled, hone.ge, hone.le, hrun', by omega⟩

theorem Turns.progresses {n : Nat} (h : Turns n s f) (hinv : Inv s) (hrun : s.engine = .running) :
    Progresses n s f := by
  induction h with
  | one h => exact h.progresses hinv hrun
  | row hf hg ih =>
    rename_i n s f g
    have hfirst := hf.progresses hinv hrun
    cases f with
    | stuck =>
      obtain ⟨m, hm, hleft, hhang⟩ := hfirst
      exact ⟨m, by omega, hleft, hhang⟩
    | stopped t =>
      obtain ⟨hinv', calls, hcalled, hpos, hle, hend⟩ := hfirst
      exact ⟨hinv', calls, hcalled, hpos, by omega, hend⟩
    | passed t =>
      obtain ⟨hinv', calls, hcalled, hpos, hle, hrun', hleft⟩ := hfirst
      have hrest := ih t rfl hinv' hrun'
      show Progresses (n + 1) s (g t)
      cases hgt : g t with
      | stuck =>
        rw [hgt] at hrest
        obtain ⟨m, hm, hleft', hhang⟩ := hrest
        rw [hcalled.replyAt] at hhang
        exact ⟨calls.length + m, by omega, by omega, hhang⟩
      | stopped u =>
        rw [hgt] at hrest
        obtain ⟨hinv'', calls', hcalled', hpos', hle', hidle, hdone, hleft'⟩ := hrest
        exact ⟨hinv'', calls ++ calls', hcalled.trans hcalled', by simp; omega, by simp; omega, hidle, hdone,
          by simp; omega⟩
      | passed u =>
        rw [hgt] at hrest
        obtain ⟨hinv'', calls', hcalled', hpos', hle', hrun'', hleft'⟩ := hrest
        exact ⟨hinv'', calls ++ calls', hcalled.trans hcalled', by simp; omega, by simp; omega, hrun'',
          by simp; omega⟩

end

/-! ## Every step keeps the invariant -/

section

variable {s : State}

/-- A running operation's `PHASE` is in its table. -/
theorem sequence_ne_outOfTable (hinv : Inv s) (hrun : s.engine = .running) : sequence s ≠ .outOfTable := by
  obtain ⟨-, -, ⟨-, hseq⟩, -⟩ := id hinv
  obtain ⟨-, hi2cWrite, hi2cRead, -, hspiRead⟩ := hseq hrun
  have hzero {p : BitVec 4} (h : p.toNat ≤ 1) : p = 0 ∨ p = 1 := by bv_omega
  rcases op_cases s with hop | hop | hop | hop
  · obtain ⟨-, ⟨hphase, -⟩ | ⟨hphase, -⟩⟩ := hi2cWrite hop
    · simp [sequence_i2cWrite hop (hzero hphase)]
    · simp [sequence_i2cPoll hop hphase]
  · obtain ⟨hphase, -⟩ := hi2cRead hop
    by_cases h2 : s.phase = 2
    · simp [sequence_i2cRead hop h2]
    · simp [sequence_i2cSetup hop (hzero (by bv_omega))]
  · have hphase : s.phase.toNat ≤ 7 := by
      rcases spiWriteProgress_of_inv hinv hrun hop with ⟨h, -⟩ | ⟨h, -⟩ | ⟨h | h, -⟩
      · omega
      all_goals simp [h]
    by_cases h01 : s.phase = 0 ∨ s.phase = 1
    · simp [sequence_spiWe hop h01]
    have hrest : s.phase = 2 ∨ s.phase = 3 ∨ s.phase = 4 ∨ s.phase = 5 ∨ s.phase = 6 ∨ s.phase = 7 := by
      bv_omega
    rcases hrest with h | h | h | h | h | h
    · simp [sequence_spiWrOp hop h]
    · simp [sequence_spiWrLo hop h]
    · simp [sequence_spiWrData hop h]
    · cases hpoll : s.polling
      · simp [sequence_strobe hop h hpoll]
      · simp [sequence_isBusy hop h hpoll]
    · simp [sequence_release hop h]
    · simp [sequence_spiWd hop h]
  · obtain ⟨hphase, -⟩ := hspiRead hop
    by_cases h01 : s.phase = 0 ∨ s.phase = 1
    · simp [sequence_spiRdOp hop h01]
    have hrest : s.phase = 2 ∨ s.phase = 3 := by bv_omega
    rcases hrest with h | h
    · simp [sequence_spiRdLo hop h]
    · simp [sequence_spiRdData hop h]

/-- What the engine's turn does to a running operation. -/
theorem step_progresses (hinv : Inv s) (hrun : s.engine = .running) (hturn : EngineHasTurn s) :
    ∃ n f, n ≤ 3 ∧ ((∀ rest, s.inputs ≠ .engineFrame :: rest) → n ≤ 1) ∧ Progresses n (turnStart s) f ∧
      step s = flowOutcome f := by
  rcases step_turns hrun hturn with ⟨htable, -⟩ | ⟨n, f, hn, hone, hf, hstep⟩
  · exact absurd htable (sequence_ne_outOfTable hinv hrun)
  · exact ⟨n, f, hn, hone, hf.progresses (s := turnStart s) hinv hrun, hstep⟩

end

end Sys2Proof.Machine
end

section
/-! SUPPORT. Every step of the machine: the engine's turn, or a move that makes no call. With it what every
step keeps, where the machine can stop, and that every operation ends. -/

namespace Sys2Proof.Machine

/-! ## The steps that are no engine's turn -/

/-- The operands of a legal command word: the fields its operation does not have are zero (30_encoding R61). -/
def LegalOperands (op : BitVec 2) (dev : BitVec 7) (loc : BitVec 11) (addr : BitVec 8) (data : DataWord) : Prop :=
  (busOf op = .i2c → addr = 0 ∧ data.toNat < 256) ∧ (busOf op = .spi → dev = 0 ∧ loc = 0) ∧
  (op = 1 ∨ op = 3 → data = 0)

/-- Where a step leads that is not a turn of a running engine: an idle engine waits, a command is ignored,
accepted or illegal, a handle input is driven, a cycle ends, reset strikes (10_state R23, R24; 70_reset). -/
inductive OtherStep (s : State) : State → Prop where
  | waits (hidle : s.engine = .idle) (hturn : EngineHasTurn s) : OtherStep s (turnStart s)
  | ignored (hrun : s.engine = .running) (hinput : s.inputs ≠ []) : OtherStep s (turnStart s)
  | commanded (hidle : s.engine = .idle) (op : BitVec 2) (dev : BitVec 7) (loc : BitVec 11) (addr : BitVec 8)
      (data : DataWord) (hlegal : LegalOperands op dev loc addr data) :
      OtherStep s (start (busOf op) op dev loc addr data (turnStart s))
  | illegal (hidle : s.engine = .idle) : OtherStep s (illegalCommand (turnStart s))
  | handle (hinput : s.inputs ≠ []) (bus : Bus) (v : Bool) : OtherStep s (driveHandle bus v (turnStart s))
  | cycleEnds (hinput : s.inputs ≠ []) (bus : Bus) : OtherStep s (endCycle bus (turnStart s))
  | reset (l : I2cLine) (p : SpiLine) (hinput : .reset l p ∈ s.inputs) :
      OtherStep s (resetBlock l p (turnStart s))

section

variable {s : State}

/-- A legal command word runs as the start of its operation. -/
theorem exec_of_legal_command {w : CommandWord} {i : Instr} (hdec : decode (.command w) = .ok i) :
    ∃ op dev loc addr data, LegalOperands op dev loc addr data ∧
      ∀ s, exec i s = .next (start (busOf op) op dev loc addr data s) := by
  rcases (decodeCommand_eq_ok_iff w i).1 hdec with
    ⟨-, -, rfl⟩ | ⟨-, -, -, rfl⟩ | ⟨-, -, rfl⟩ | ⟨-, -, -, rfl⟩
  · refine ⟨0, _, _, 0, _, ⟨fun _ => ⟨rfl, ?_⟩, nofun, nofun⟩, fun _ => rfl⟩
    bv_omega
  · exact ⟨1, _, _, 0, 0, ⟨fun _ => ⟨rfl, by decide⟩, nofun, fun _ => rfl⟩, fun _ => rfl⟩
  · exact ⟨2, 0, 0, _, _, ⟨nofun, fun _ => ⟨rfl, rfl⟩, nofun⟩, fun _ => rfl⟩
  · exact ⟨3, 0, 0, _, 0, ⟨nofun, fun _ => ⟨rfl, rfl⟩, fun _ => rfl⟩, fun _ => rfl⟩

theorem turnStart_of_cons {move : Input} {rest : List Input} (hin : s.inputs = move :: rest) :
    turnStart s = { s with inputs := rest } := by
  rw [turnStart, hin, List.tail_cons]

theorem engineTurn_of_idle {rest : List Input} (m : Move) (hidle : s.engine = .idle) :
    outcomeOf (engineTurn m { s with inputs := rest }) = .next { s with inputs := rest } := by
  simp only [engineTurn, hidle]
  rfl

/-- A step is a turn of a running engine, or leads to one state, whatever the oracle answers. -/
theorem step_cases (s : State) :
    (s.engine = .running ∧ EngineHasTurn s) ∨ ∃ t, step s = .next t ∧ OtherStep s t := by
  cases hin : s.inputs with
  | nil =>
    have hturn : EngineHasTurn s := .inl hin
    cases hengine : s.engine with
    | running => exact .inl ⟨rfl, hturn⟩
    | idle =>
      refine .inr ⟨turnStart s, ?_, .waits hengine hturn⟩
      rw [step_idle hengine hin, turnStart, hin, List.tail_nil, ← hin]
  | cons move rest =>
    have hinput : s.inputs ≠ [] := by simp [hin]
    cases move with
    | engine =>
      have hturn : EngineHasTurn s := .inr (.inl ⟨rest, hin⟩)
      cases hengine : s.engine with
      | running => exact .inl ⟨rfl, hturn⟩
      | idle =>
        refine .inr ⟨turnStart s, ?_, .waits hengine hturn⟩
        rw [step_of_engine hin, turnStart_of_cons hin, engineTurn_of_idle _ hengine]
    | engineFrame =>
      have hturn : EngineHasTurn s := .inr (.inr ⟨rest, hin⟩)
      cases hengine : s.engine with
      | running => exact .inl ⟨rfl, hturn⟩
      | idle =>
        refine .inr ⟨turnStart s, ?_, .waits hengine hturn⟩
        rw [step_of_engineFrame hin, turnStart_of_cons hin, engineTurn_of_idle _ hengine]
    | cmd w =>
      cases hengine : s.engine with
      | running =>
        refine .inr ⟨turnStart s, ?_, .ignored hengine hinput⟩
        rw [step_of_command hin, turnStart_of_cons hin,
          commandWrite_of_running (s := { s with inputs := rest }) w hengine]
        rfl
      | idle =>
        cases hdec : decode (.command w) with
        | ok i =>
          obtain ⟨op, dev, loc, addr, data, hlegal, hexec⟩ := exec_of_legal_command hdec
          refine .inr ⟨_, ?_, .commanded hengine op dev loc addr data hlegal⟩
          rw [step_of_legal_command hin hengine hdec, hexec, turnStart_of_cons hin]
        | error e =>
          refine .inr ⟨_, ?_, .illegal hengine⟩
          rw [step_of_illegal_command hin hengine hdec, turnStart_of_cons hin]
    | handle bus v =>
      refine .inr ⟨_, ?_, .handle hinput bus v⟩
      rw [step_handle hin, turnStart_of_cons hin]
    | cycleEnds bus =>
      refine .inr ⟨_, ?_, .cycleEnds hinput bus⟩
      rw [step_cycleEnds hin, turnStart_of_cons hin]
    | reset l p =>
      refine .inr ⟨_, ?_, .reset l p (by simp [hin])⟩
      rw [step_reset hin, turnStart_of_cons hin]

/-! ## They keep the invariant -/

/-- The moves to come are no matter of the invariant. -/
theorem inv_turnStart (hinv : Inv s) : Inv (turnStart s) := hinv

theorem inv_driveHandle (bus : Bus) (v : Bool) (hinv : Inv s) : Inv (driveHandle bus v s) := by
  cases bus <;> exact hinv

theorem inv_endCycle (bus : Bus) (hinv : Inv s) : Inv (endCycle bus s) := by
  cases bus <;> exact hinv

theorem inv_illegalCommand (hidle : s.engine = .idle) (hinv : Inv s) : Inv (illegalCommand s) := by
  obtain ⟨hshape, hoperand, ⟨hpolling, -⟩, -⟩ := hinv
  refine ⟨hshape, hoperand, ⟨hpolling, fun h => ?_⟩, fun _ => ⟨hidle, fun _ => ⟨rfl, rfl, .inr ⟨?_, .inl rfl⟩⟩,
    fun _ => ⟨rfl, rfl⟩, fun _ => ⟨rfl, Nat.zero_le _, fun h => ?_⟩⟩⟩
  · exact absurd (hidle.symm.trans h) (by decide)
  · exact (by decide : Status.invalidParameter.code ≠ Status.ok.code)
  · exact absurd h (by decide : Status.invalidParameter.code ≠ Status.ok.code)

/-- An accepted command: the operands of its operation, at the start of its table. -/
theorem inv_accept {op : BitVec 2} {dev : BitVec 7} {loc : BitVec 11} {addr : BitVec 8} {data : DataWord}
    (hlegal : LegalOperands op dev loc addr data) (hinv : Inv s) : Inv (accept op dev loc addr data s) := by
  obtain ⟨hshape, -⟩ := hinv
  exact ⟨hshape, hlegal, ⟨nofun, fun _ => ⟨rfl, fun _ => ⟨rfl, .inl ⟨Nat.zero_le _, rfl⟩⟩,
    fun _ => ⟨Nat.zero_le _, rfl, rfl⟩, fun _ => .inl ⟨Nat.zero_le _, rfl, rfl, rfl⟩,
    fun _ => ⟨Nat.zero_le _, rfl, rfl⟩⟩⟩, nofun⟩

theorem resultFits_notOpened (p : Params) (op : BitVec 2) : ResultFits p op .notOpened 0 false 0 :=
  ⟨fun _ => ⟨rfl, rfl, .inr ⟨by decide, .inl rfl⟩⟩, fun _ => ⟨rfl, rfl⟩,
    fun _ => ⟨rfl, Nat.zero_le _, nofun⟩⟩

theorem inv_start {op : BitVec 2} {dev : BitVec 7} {loc : BitVec 11} {addr : BitVec 8} {data : DataWord}
    (bus : Bus) (hlegal : LegalOperands op dev loc addr data) (hinv : Inv s) :
    Inv (start bus op dev loc addr data s) := by
  have haccept := inv_accept hlegal hinv
  rcases start_cases bus op dev loc addr data s with ⟨-, h⟩ | ⟨-, h⟩ <;> rw [h]
  · exact haccept
  · obtain ⟨hshape, hoperand, -⟩ := haccept
    exact ⟨hshape, hoperand, registersInv_finish (resultFits_notOpened _ _)⟩

/-- Reset leaves a block that has done nothing yet. -/
theorem inv_resetBlock (l : I2cLine) (p : SpiLine) (hinv : Inv s) : Inv (resetBlock l p s) := by
  obtain ⟨⟨hparams, -, hmem, hi2c, hspi⟩, -⟩ := hinv
  exact ⟨⟨hparams, List.length_replicate, hmem, hi2c, hspi⟩,
    ⟨fun _ => ⟨rfl, (by decide : (0 : BitVec 16).toNat < 256)⟩, fun _ => ⟨rfl, rfl⟩, fun _ => rfl⟩,
    ⟨nofun, nofun⟩, nofun⟩

theorem OtherStep.inv {t : State} (h : OtherStep s t) (hinv : Inv s) : Inv t := by
  have hstart := inv_turnStart hinv
  cases h with
  | waits | ignored => exact hstart
  | commanded hidle op dev loc addr data hlegal => exact inv_start (busOf op) hlegal hstart
  | illegal hidle => exact inv_illegalCommand hidle hstart
  | handle hinput bus v => exact inv_driveHandle bus v hstart
  | cycleEnds hinput bus => exact inv_endCycle bus hstart
  | reset l p => exact inv_resetBlock l p hstart

end

/-- Settles O52: on a turn by what its calls lead to, else move by move of the environment. -/
theorem stepKeepsInv : Obligations.StepKeepsInv := by
  intro s t hinv hstep
  rcases step_cases s with ⟨hrun, hturn⟩ | ⟨u, hnext, hother⟩
  · obtain ⟨n, f, -, -, hprogress, hout⟩ := step_progresses hinv hrun hturn
    rcases (flowOutcome_next f t).1 (hout.symm.trans hstep) with rfl | rfl
    · exact hprogress.1
    · exact hprogress.1
  · cases hnext.symm.trans hstep
    exact hother.inv hinv

/-- Settles O53: only a turn can stop, in a call that never returns. -/
theorem onlyAHungCallStopsTheMachine : Obligations.OnlyAHungCallStopsTheMachine := by
  intro s hinv
  rcases step_cases s with ⟨hrun, hturn⟩ | ⟨u, hnext, -⟩
  · obtain ⟨n, f, hn, hone, hprogress, hout⟩ := step_progresses hinv hrun hturn
    have hcases : (∃ t, step s = .next t) ∨
        (step s = .fault .callNeverReturns ∧ ∃ m, m < n ∧ (replyAt s m).returns = false) := by
      rw [hout]
      cases f with
      | stuck =>
        obtain ⟨m, hm, -, hhang⟩ := hprogress
        exact .inr ⟨rfl, m, hm, hhang⟩
      | stopped t | passed t => exact .inl ⟨t, rfl⟩
    refine ⟨hcases.imp_right And.left, fun hreturns hframe => ?_, fun hreturns => ?_⟩
    · refine hcases.resolve_right fun ⟨_, m, hm, hhang⟩ => ?_
      have hzero : m = 0 := by have := hone hframe; omega
      rw [hzero, replyAt_zero, hreturns] at hhang
      cases hhang
    · refine hcases.resolve_right fun ⟨_, m, hm, hhang⟩ => ?_
      rw [hreturns m (by omega)] at hhang
      cases hhang
  · exact ⟨.inl ⟨u, hnext⟩, fun _ _ => ⟨u, hnext⟩, fun _ => ⟨u, hnext⟩⟩

/-! ## Every operation ends -/

section

variable {s : State}

/-- A step of an operation in progress: it goes on with that many calls fewer left, or ends with a result. -/
def StepsOn (s t : State) (calls : List Call) : Prop :=
  (Inv t ∧ t.engine = .running ∧ calls.length + callsLeft t ≤ callsLeft s) ∨
  (t.engine = .idle ∧ t.resDone = true ∧ calls.length ≤ callsLeft s)

/-- Another agent's move takes nothing from an operation in progress, but where it is a reset. -/
theorem OtherStep.stepsOn {t : State} (h : OtherStep s t) (hinv : Inv s) (hrun : s.engine = .running)
    (hreset : ∀ l p, .reset l p ∉ s.inputs) :
    s.inputs ≠ [] ∧ t.inputs = s.inputs.tail ∧ Called [] s t ∧ StepsOn s t [] := by
  have hinv' := h.inv hinv
  have hnotIdle (hidle : s.engine = .idle) : False := by rw [hrun] at hidle; cases hidle
  cases h with
  | waits hidle | commanded hidle | illegal hidle => exact (hnotIdle hidle).elim
  | ignored _ hinput =>
    exact ⟨hinput, rfl, Called.refl s, .inl ⟨hinv', hrun, (Nat.zero_add _).le⟩⟩
  | handle hinput bus v =>
    cases bus with
    | i2c | spi => exact ⟨hinput, rfl, Called.refl s, .inl ⟨hinv', hrun, (Nat.zero_add _).le⟩⟩
  | cycleEnds hinput bus =>
    cases bus with
    | i2c | spi => exact ⟨hinput, rfl, Called.refl s, .inl ⟨hinv', hrun, (Nat.zero_add _).le⟩⟩
  | reset l p hinput => exact absurd hinput (hreset l p)

/-- Where every call it may make returns, an operation in progress makes a step; alone it makes one call. -/
theorem exists_step_of_returns (hinv : Inv s) (hrun : s.engine = .running)
    (hreset : ∀ l p, .reset l p ∉ s.inputs)
    (hreturns : ∀ n, n < callsLeft s → (replyAt s n).returns = true) :
    ∃ t calls, step s = .next t ∧ t.inputs = s.inputs.tail ∧ Called calls s t ∧ StepsOn s t calls ∧
      (s.inputs = [] → calls.length = 1) := by
  rcases step_cases s with ⟨-, hturn⟩ | ⟨t, hnext, hother⟩
  · obtain ⟨n, f, -, hone, hprogress, hout⟩ := step_progresses hinv hrun hturn
    have hinputs {t : State} (h : step s = .next t) : t.inputs = s.inputs.tail := by
      obtain ⟨-, -, -, -, -, -, -, -, hinputs⟩ := phasesLeaveTheOperandsAlone.2 s t hrun h hturn
      exact hinputs
    have halone {calls : List Call} (hpos : 1 ≤ calls.length) (hle : calls.length ≤ n)
        (hin : s.inputs = []) : calls.length = 1 := by
      have := hone (by simp [hin])
      omega
    cases f with
    | stuck =>
      obtain ⟨m, -, hleft, hhang⟩ := hprogress
      cases (hreturns m hleft).symm.trans hhang
    | stopped t =>
      obtain ⟨-, calls, hcalled, hpos, hle, hend⟩ := hprogress
      exact ⟨t, calls, hout, hinputs hout, hcalled, .inr hend, halone hpos hle⟩
    | passed t =>
      obtain ⟨hinv', calls, hcalled, hpos, hle, hon⟩ := hprogress
      exact ⟨t, calls, hout, hinputs hout, hcalled, .inl ⟨hinv', hon⟩, halone hpos hle⟩
  · obtain ⟨hinput, hinputs, hcalled, hon⟩ := hother.stepsOn hinv hrun hreset
    exact ⟨t, [], hnext, hinputs, hcalled, hon, fun h => absurd h hinput⟩

theorem run_succ_of_step {t : State} (h : step s = .next t) (n : Nat) :
    Sys2Proof.core.run (n + 1) s = Sys2Proof.core.run n t := by
  have hcore : Sys2Proof.core.step s = .next t := h
  simp only [Host.Core.run, hcore]

/-- From `s` the operation is over, with a result, in so many steps and calls at most; alone, in one step
for each call. -/
def EndsWithin (calls : Nat) (s : State) : Prop :=
  ∃ n t, n ≤ s.inputs.length + calls ∧ Sys2Proof.core.run n s = .next t ∧ t.engine = .idle ∧
    t.resDone = true ∧ t.trace.length ≤ s.trace.length + calls ∧
    (s.inputs = [] → n ≤ calls ∧ t.trace.length = s.trace.length + n)

theorem EndsWithin.mono {m n : Nat} (h : EndsWithin m s) (hle : m ≤ n) : EndsWithin n s := by
  obtain ⟨k, t, hk, hrun, hidle, hdone, htrace, halone⟩ := h
  exact ⟨k, t, by omega, hrun, hidle, hdone, by omega, fun h => by have := halone h; omega⟩

/-- An operation in progress ends within the calls it has left: by induction on those and the moves to come. -/
theorem endsWithin_callsLeft (m : Nat) (hm : s.inputs.length + callsLeft s ≤ m) (hinv : Inv s)
    (hrun : s.engine = .running) (hreset : ∀ l p, .reset l p ∉ s.inputs)
    (hreturns : ∀ n, n < callsLeft s → (replyAt s n).returns = true) : EndsWithin (callsLeft s) s := by
  induction m generalizing s with
  | zero => have := callsLeft_pos hinv hrun; omega
  | succ m ih =>
    obtain ⟨t, calls, hstep, hinputs, hcalled, hon, halone⟩ := exists_step_of_returns hinv hrun hreset hreturns
    have htrace : t.trace.length = s.trace.length + calls.length := by
      obtain ⟨htrace, -⟩ := hcalled
      rw [htrace, List.length_append]
    have hlength : t.inputs.length + 1 ≤ s.inputs.length + calls.length := by
      rw [hinputs, List.length_tail]
      cases hin : s.inputs with
      | nil => simp [halone hin]
      | cons move rest => simp
    rcases hon with ⟨hinv', hrun', hleft⟩ | ⟨hidle, hdone, hleft⟩
    · have hreturns' : ∀ n, n < callsLeft t → (replyAt t n).returns = true := by
        intro n hn
        rw [hcalled.replyAt]
        exact hreturns _ (by omega)
      have hreset' : ∀ l p, .reset l p ∉ t.inputs := by
        intro l p hmem
        rw [hinputs] at hmem
        exact hreset l p (List.mem_of_mem_tail hmem)
      obtain ⟨n, u, hn, hrunn, hidle, hdone, htraceu, haloneu⟩ := ih (by omega) hinv' hrun' hreset' hreturns'
      refine ⟨n + 1, u, by omega, (run_succ_of_step hstep n).trans hrunn, hidle, hdone, by omega, fun hin => ?_⟩
      have hone := halone hin
      have := haloneu (by rw [hinputs, hin, List.tail_nil])
      omega
    · refine ⟨1, t, by omega, (run_succ_of_step hstep 0).trans rfl, hidle, hdone, by omega, fun hin => ?_⟩
      have hone := halone hin
      omega

end

/-- Settles O49: an operation has no more calls left than its kind allows. -/
theorem everyOperationEnds : Obligations.EveryOperationEnds := by
  intro s hinv hrun hreset hreturns
  have hbound := callsLeft_le_callBound s
  exact (endsWithin_callsLeft _ le_rfl hinv hrun hreset fun n hn => hreturns n (by omega)).mono hbound

end Sys2Proof.Machine
end

section
/-! SUPPORT. The call of every turn: it is a well-formed request of the operation's own bus, and uses chip
select as the phases expect. -/

namespace Sys2Proof.Machine

/-! ## The call of a turn -/

/-- A transfer of a well-formed request to this target, or a sample of the ready line. -/
def OwnCall (target : Target) (call : Call) : Prop :=
  ∀ r st n bytes, call = .xfer r st n bytes → r.wf = true ∧ r.target = target

/-- The target of an operation's calls. -/
def targetOf (op : BitVec 2) (slave : BitVec 7) : Target :=
  match busOf op with
  | .i2c => .i2c slave
  | .spi => .spi

/-- A flow whose states have this call in the trace, and no other since `s`. -/
def Appends (s : State) (call : Call) : Flow → Prop :=
  FlowAll fun t => t.trace = s.trace ++ [call]

section

variable {s : State}

theorem ownCall_recordOf {r : Request} {target : Target} (hwf : r.wf = true) (ht : r.target = target)
    (a : Reply) : OwnCall target (recordOf r a) := by
  intro r' st n bytes h
  cases h
  exact ⟨hwf, ht⟩

theorem appends_callThen {k : BitVec 4} {r : Request} {answered : Status → State → Flow}
    (h : ∀ e t, FlowAll (fun u => u.trace = t.trace) (answered e t)) :
    Appends s (recordOf r (nextReply s)) (callThen k r answered s) := by
  rcases callThen_cases k r answered s with ⟨-, hc⟩ | ⟨-, hc⟩ <;> rw [hc]
  · trivial
  · exact (h _ _).mono fun u hu => hu.trans (answeredCall_trace k r s)

theorem appends_phaseStep {k : BitVec 4} {r : Request} {fail : Status → State → State} (hfail : IsAbort fail) :
    Appends s (recordOf r (nextReply s)) (phaseStep k r fail s) := by
  refine appends_callThen fun e t => ?_
  split
  · rfl
  · rcases hfail with rfl | rfl <;> rfl

theorem appends_busyFlow :
    Appends s (.isBusy (Status.ofCode (nextReply s).code) (nextReply s).busy) (busyFlow s) := by
  unfold busyFlow
  split_ifs <;> trivial

/-- Every turn makes one call, of the operation's own bus and slave. -/
theorem Turn.call {f : Flow} (h : Turn s f) :
    ∃ call, Appends s call f ∧ OwnCall (targetOf s.argOp s.slave) call := by
  have hwrite : IsAbort failSpiWrite := .inl rfl
  have hread : IsAbort abortRead := .inr rfl
  have hi2c (h : s.argOp = 0 ∨ s.argOp = 1) : Target.i2c s.slave = targetOf s.argOp s.slave := by
    rcases h with h | h <;> rw [h] <;> rfl
  have hspi (h : s.argOp = 2 ∨ s.argOp = 3) : Target.spi = targetOf s.argOp s.slave := by
    rcases h with h | h <;> rw [h] <;> rfl
  cases h with
  | primary hop hphase data =>
    refine ⟨_, appends_callThen fun e t => ?_, ownCall_recordOf rfl (hi2c (.inl hop)) _⟩
    unfold primaryAnswered
    split <;> rfl
  | poll hop hphase =>
    refine ⟨_, appends_callThen fun e t => ?_, ownCall_recordOf rfl (hi2c (.inl hop)) _⟩
    simp only [pollAnswered]
    split_ifs <;> rfl
  | setup hop hphase => exact ⟨_, appends_phaseStep hread, ownCall_recordOf rfl (hi2c (.inr hop)) _⟩
  | i2cRead hop hphase =>
    refine ⟨_, appends_callThen fun e t => ?_, ownCall_recordOf rfl (hi2c (.inr hop)) _⟩
    split <;> rfl
  | writeEnable hop hphase => exact ⟨_, appends_phaseStep hwrite, ownCall_recordOf rfl (hspi (.inl hop)) _⟩
  | writeOpcode hop hphase a => exact ⟨_, appends_phaseStep hwrite, ownCall_recordOf rfl (hspi (.inl hop)) _⟩
  | writeLow hop hphase b =>
    exact ⟨_, appends_phaseStep hwrite,
      ownCall_recordOf (Laws.EncodingWellFormed.spiWrLo b) (hspi (.inl hop)) _⟩
  | writeData hop hphase lo hi =>
    exact ⟨_, appends_phaseStep hwrite, ownCall_recordOf rfl (hspi (.inl hop)) _⟩
  | strobe hop hphase hpoll =>
    refine ⟨_, appends_callThen fun e t => ?_, ownCall_recordOf rfl (hspi (.inl hop)) _⟩
    split <;> rfl
  | isBusy hop hphase hpoll => exact ⟨_, appends_busyFlow, fun r st n bytes h => by cases h⟩
  | release hop hphase => exact ⟨_, appends_phaseStep hwrite, ownCall_recordOf rfl (hspi (.inl hop)) _⟩
  | writeDisable hop hphase =>
    refine ⟨_, appends_callThen fun e t => ?_, ownCall_recordOf rfl (hspi (.inl hop)) _⟩
    split <;> rfl
  | readOpcode hop hphase a => exact ⟨_, appends_phaseStep hread, ownCall_recordOf rfl (hspi (.inr hop)) _⟩
  | readLow hop hphase b =>
    exact ⟨_, appends_phaseStep hread,
      ownCall_recordOf (Laws.EncodingWellFormed.spiRdLo b) (hspi (.inr hop)) _⟩
  | readData hop hphase =>
    refine ⟨_, appends_callThen fun e t => ?_, ownCall_recordOf rfl (hspi (.inr hop)) _⟩
    split <;> rfl

/-- The calls since `s`, each of the operation's own bus and slave. -/
def OwnCalls (s t : State) : Prop :=
  ∃ calls, t.trace = s.trace ++ calls ∧ ∀ call ∈ calls, OwnCall (targetOf s.argOp s.slave) call

theorem OwnCalls.trans {t u : State} (hst : OwnCalls s t) (htu : OwnCalls t u)
    (hop : operandsOf t = operandsOf s) : OwnCalls s u := by
  obtain ⟨calls, htrace, hown⟩ := hst
  obtain ⟨calls', htrace', hown'⟩ := htu
  simp only [operandsOf, Prod.mk.injEq] at hop
  obtain ⟨hop, hdev, hloc, -⟩ := hop
  have hslave : t.slave = s.slave := by rw [State.slave, State.slave, hdev, hloc]
  rw [hop, hslave] at hown'
  refine ⟨calls ++ calls', by rw [htrace', htrace, List.append_assoc], fun call hmem => ?_⟩
  exact (List.mem_append.1 hmem).elim (hown call) (hown' call)

theorem Turns.ownCalls {n : Nat} {f : Flow} (h : Turns n s f) : FlowAll (OwnCalls s) f := by
  have hfirst {s : State} {f : Flow} (h : Turn s f) : FlowAll (OwnCalls s) f := by
    obtain ⟨call, happends, hown⟩ := h.call
    exact happends.mono fun t ht => ⟨[call], ht, by simpa using hown⟩
  induction h with
  | one h => exact hfirst h
  | row hf hg ih =>
    rename_i n s f g
    have hown := hfirst hf
    have hmoves := (Turns.one hf).moves
    cases f with
    | stuck => trivial
    | stopped t => exact hown
    | passed t =>
      obtain ⟨m, -, hmoves⟩ := hmoves
      exact (ih t rfl).mono fun u hu => OwnCalls.trans hown hu hmoves.operandsOf_eq

theorem OtherStep.trace {t : State} (h : OtherStep s t) : t.trace = s.trace := by
  cases h with
  | waits | ignored | illegal | reset => rfl
  | commanded hidle op dev loc addr data =>
    obtain ⟨htrace, -⟩ := called_start (busOf op) op dev loc addr data (turnStart s)
    exact htrace.trans (List.append_nil _)
  | handle _ bus => cases bus <;> rfl
  | cycleEnds _ bus => cases bus <;> rfl

end

/-- Settles O41: a turn's calls are its requests, and no other move makes any. -/
theorem engineCallsAreWellFormed : Obligations.EngineCallsAreWellFormed := by
  intro s t hstep
  rcases step_cases s with ⟨hrun, hturn⟩ | ⟨u, hnext, hother⟩
  · rcases step_turns hrun hturn with ⟨-, hfault⟩ | ⟨n, f, -, -, hf, hout⟩
    · cases hfault.symm.trans hstep
    · obtain ⟨calls, htrace, hown⟩ := hf.ownCalls.of_outcome (hout.symm.trans hstep)
      refine ⟨calls, htrace, fun hidle => ?_, fun r st n bytes hmem => hown _ hmem r st n bytes rfl⟩
      cases hrun.symm.trans hidle
  · cases hnext.symm.trans hstep
    exact ⟨[], hother.trace.trans (List.append_nil _).symm, fun _ => rfl, by simp⟩

/-! ## Chip select -/

section

variable {s : State}

/-- Chip select after a call that does what its flags say. -/
def csAfterCall (cs : Bool) : Call → Bool
  | .isBusy _ _ => cs
  | .xfer r _ _ _ =>
    match r.target with
    | .i2c _ => cs
    | .spi => csAfter r.opts cs

theorem csDisciplined_cons (cs : Bool) (call : Call) (calls : List Call) :
    csDisciplined cs (call :: calls) =
      (csDisciplined cs [call] && csDisciplined (csAfterCall cs call) calls) := by
  cases call with
  | isBusy st busy => rfl
  | xfer r st n bytes =>
    simp only [csDisciplined, csAfterCall]
    cases r.target <;> simp

/-- A turn's call uses chip select where the phases expect it, and leaves it where they expect it next; an
operation that ends with `OK` leaves it deasserted. -/
def CsTurn (s : State) (call : Call) : Flow → Prop
  | .stuck => True
  | .stopped t => csDisciplined (csExpected s) [call] = true ∧ t.engine = .idle ∧
      (t.resStatus = Status.ok.code → t.spiLine.cs = false)
  | .passed t => csDisciplined (csExpected s) [call] = true ∧ csAfterCall (csExpected s) call = csExpected t ∧
      t.spiLine.cs = csExpected t

theorem cs_answeredCall {k : BitVec 4} {r : Request} (ht : r.target = .spi)
    (hok : replyStatus r (nextReply s) = .ok) :
    (answeredCall k r s).spiLine.cs = csAfter r.opts s.spiLine.cs := by
  rw [answeredCall_spi k ht, afterSpiCall_spiLine, hok]
  exact (spiLineAfter_ok r _ _).1

theorem csExpected_congr {t u : State} (hop : t.argOp = u.argOp) (hphase : t.phase = u.phase)
    (hpoll : t.polling = u.polling) : csExpected t = csExpected u := by
  rw [csExpected, csExpected, hop, hphase, hpoll]

/-- A flow's call uses chip select as expected where its flags do, it moves on to a point that expects what they
leave, and it ends with `OK` only where they leave chip select deasserted. -/
theorem csTurn_callThen {k : BitVec 4} {r : Request} {answered : Status → State → Flow}
    (hcs : s.spiLine.cs = csExpected s) (ht : r.target = .spi) (hfits : csMisused r.opts (csExpected s) = false)
    (hok : replyStatus r (nextReply s) = .ok →
      match answered .ok (answeredCall k r s) with
      | .stuck => True
      | .stopped t => t.engine = .idle ∧ t.spiLine = (answeredCall k r s).spiLine ∧
          csAfter r.opts (csExpected s) = false
      | .passed t => t.spiLine = (answeredCall k r s).spiLine ∧ csAfter r.opts (csExpected s) = csExpected t)
    (hfail : ∀ e, e ≠ .ok → ∃ fail, IsAbort fail ∧
      answered e (answeredCall k r s) = .stopped (fail e (answeredCall k r s))) :
    CsTurn s (recordOf r (nextReply s)) (callThen k r answered s) := by
  have hdisc : csDisciplined (csExpected s) [recordOf r (nextReply s)] = true := by
    simp [csDisciplined, recordOf, ht, hfits]
  rcases callThen_cases k r answered s with ⟨-, hc⟩ | ⟨-, hc⟩ <;> rw [hc]
  · trivial
  · by_cases he : replyStatus r (nextReply s) = .ok
    · have hcall := cs_answeredCall (k := k) ht he
      rw [hcs] at hcall
      have hok := hok he
      rw [he]
      change CsTurn s _ (answered .ok (answeredCall k r s))
      cases hflow : answered .ok (answeredCall k r s) with
      | stuck => trivial
      | stopped t =>
        rw [hflow] at hok
        obtain ⟨hidle, hline, hafter⟩ := hok
        exact ⟨hdisc, hidle, fun _ => by rw [hline, hcall, hafter]⟩
      | passed t =>
        rw [hflow] at hok
        obtain ⟨hline, hafter⟩ := hok
        refine ⟨hdisc, ?_, by rw [hline, hcall, hafter]⟩
        simpa [csAfterCall, recordOf, ht] using hafter
    · obtain ⟨fail, hfail, hflow⟩ := hfail _ he
      change CsTurn s _ (answered _ (answeredCall k r s))
      rw [hflow]
      rcases hfail with rfl | rfl
      · exact ⟨hdisc, rfl, fun h => absurd ((Status.code_eq_ok _).1 h) he⟩
      · exact ⟨hdisc, rfl, fun h => absurd ((Status.code_eq_ok _).1 h) he⟩

/-- A phase that goes on by one expects next what its flags leave. -/
theorem csTurn_phaseStep {k : BitVec 4} {r : Request} {fail : Status → State → State}
    (hcs : s.spiLine.cs = csExpected s) (hfail : IsAbort fail) (ht : r.target = .spi)
    (hfits : csMisused r.opts (csExpected s) = false)
    (hnext : csAfter r.opts (csExpected s) = csExpected { s with phase := k + 1 }) :
    CsTurn s (recordOf r (nextReply s)) (phaseStep k r fail s) := by
  refine csTurn_callThen hcs ht hfits (fun _ => ⟨rfl, ?_⟩) fun e he => ⟨fail, hfail, if_neg he⟩
  rw [hnext]
  exact csExpected_congr (by simp) rfl (by simp)

theorem csTurn_busyFlow (hop : s.argOp = 2) (hphase : s.phase = 5) (hpoll : s.polling = true)
    (hcs : s.spiLine.cs = csExpected s) :
    CsTurn s (.isBusy (Status.ofCode (nextReply s).code) (nextReply s).busy) (busyFlow s) := by
  have hexpected : csExpected s = true := by simp [csExpected, hop, hphase, hpoll]
  unfold busyFlow
  split_ifs with hreturns hok hmore
  · refine ⟨rfl, ?_, ?_⟩
    · simp [csAfterCall, csExpected, busySampled, hop, hphase, hpoll]
    · exact (hcs.trans hexpected).trans (by simp [csExpected, busySampled, hop, hphase, hpoll])
  · refine ⟨rfl, ?_, ?_⟩
    · simp [csAfterCall, csExpected, busySampled, hop, hphase, hpoll]
    · exact (hcs.trans hexpected).trans (by simp [csExpected, busySampled, hop])
  · exact ⟨rfl, rfl, fun h => absurd ((Status.code_eq_ok _).1 h) hok⟩
  · trivial

/-- Every turn of an SPI operation keeps to the chip-select discipline. -/
theorem Turn.csTurn {f : Flow} (h : Turn s f) (hinv : Inv s) (hspi : busOf s.argOp = .spi)
    (hcs : s.spiLine.cs = csExpected s) : ∃ call, Appends s call f ∧ CsTurn s call f := by
  have hwrite : IsAbort failSpiWrite := .inl rfl
  have hread : IsAbort abortRead := .inr rfl
  have hpolling (h : s.phase ≠ 5) : s.polling = false := polling_eq_false hinv fun h' => h h'.2
  cases h with
  | primary hop | poll hop | setup hop | i2cRead hop => rw [hop] at hspi; cases hspi
  | writeEnable hop hphase =>
    have hexpected : csExpected s = false := by
      rcases hphase with hphase | hphase <;> simp [csExpected, hop, hphase]
    refine ⟨_, appends_phaseStep hwrite, csTurn_phaseStep hcs hwrite rfl (by rw [hexpected]; rfl) ?_⟩
    simp [csExpected, hop, csAfter, Request.spiWe]
  | writeOpcode hop hphase a =>
    have hexpected : csExpected s = false := by simp [csExpected, hop, hphase]
    refine ⟨_, appends_phaseStep hwrite, csTurn_phaseStep hcs hwrite rfl (by rw [hexpected]; rfl) ?_⟩
    simp [csExpected, hop, csAfter, Request.spiWrOp]
  | writeLow hop hphase b =>
    have hexpected : csExpected s = true := by simp [csExpected, hop, hphase]
    refine ⟨_, appends_phaseStep hwrite, csTurn_phaseStep hcs hwrite rfl (by rw [hexpected]; rfl) ?_⟩
    simp [csExpected, hop, hphase, csAfter, Request.spiWrLo]
  | writeData hop hphase lo hi =>
    have hexpected : csExpected s = true := by simp [csExpected, hop, hphase]
    have hpoll : s.polling = false := hpolling (by rw [hphase]; decide)
    refine ⟨_, appends_phaseStep hwrite, csTurn_phaseStep hcs hwrite rfl (by rw [hexpected]; rfl) ?_⟩
    simp [csExpected, hop, hpoll, csAfter, Request.spiWrData]
  | strobe hop hphase hpoll =>
    have hexpected : csExpected s = false := by simp [csExpected, hop, hphase, hpoll]
    refine ⟨_, appends_callThen fun e t => ?_, csTurn_callThen hcs rfl (by rw [hexpected]; rfl)
      (fun _ => ⟨rfl, ?_⟩) fun e he => ⟨failSpiWrite, hwrite, if_neg he⟩⟩
    · split <;> rfl
    · simp [csExpected, hop, csAfter, Request.spiStrobe]
  | isBusy hop hphase hpoll => exact ⟨_, appends_busyFlow, csTurn_busyFlow hop hphase hpoll hcs⟩
  | release hop hphase =>
    have hexpected : csExpected s = true := by simp [csExpected, hop, hphase]
    refine ⟨_, appends_phaseStep hwrite, csTurn_phaseStep hcs hwrite rfl (by rw [hexpected]; rfl) ?_⟩
    simp [csExpected, hop, csAfter, Request.spiRelease]
  | writeDisable hop hphase =>
    have hexpected : csExpected s = false := by simp [csExpected, hop, hphase]
    refine ⟨_, appends_callThen fun e t => ?_, csTurn_callThen hcs rfl (by rw [hexpected]; rfl)
      (fun _ => ⟨rfl, rfl, by rw [hexpected]; rfl⟩) fun e he => ⟨failSpiWrite, hwrite, ?_⟩⟩
    · split <;> rfl
    · rw [if_neg he]
  | readOpcode hop hphase a =>
    have hexpected : csExpected s = false := by
      rcases hphase with hphase | hphase <;> simp [csExpected, hop, hphase]
    refine ⟨_, appends_phaseStep hread, csTurn_phaseStep hcs hread rfl (by rw [hexpected]; rfl) ?_⟩
    simp [csExpected, hop, csAfter, Request.spiRdOp]
  | readLow hop hphase b =>
    have hexpected : csExpected s = true := by simp [csExpected, hop, hphase]
    refine ⟨_, appends_phaseStep hread, csTurn_phaseStep hcs hread rfl (by rw [hexpected]; rfl) ?_⟩
    simp [csExpected, hop, hphase, csAfter, Request.spiRdLo]
  | readData hop hphase =>
    have hexpected : csExpected s = true := by simp [csExpected, hop, hphase]
    refine ⟨_, appends_callThen fun e t => ?_, csTurn_callThen hcs rfl (by rw [hexpected]; rfl)
      (fun _ => ⟨rfl, rfl, by rw [hexpected]; rfl⟩) fun e he => ⟨abortRead, hread, ?_⟩⟩
    · split <;> rfl
    · rw [if_neg he]

/-- A row of turns keeps to the chip-select discipline from `s` on. -/
def CsRow (s : State) : Flow → Prop
  | .stuck => True
  | .stopped t => t.engine = .idle ∧ (t.resStatus = Status.ok.code → t.spiLine.cs = false) ∧
      ∃ calls, t.trace = s.trace ++ calls ∧ csDisciplined (csExpected s) calls = true
  | .passed t => t.spiLine.cs = csExpected t ∧
      ∃ calls, t.trace = s.trace ++ calls ∧ csDisciplined (csExpected s) calls = true

theorem Turns.csRow {n : Nat} {f : Flow} (h : Turns n s f) (hinv : Inv s) (hrun : s.engine = .running)
    (hspi : busOf s.argOp = .spi) (hcs : s.spiLine.cs = csExpected s) : CsRow s f := by
  induction h with
  | one h =>
    rename_i s f
    obtain ⟨call, happends, hturn⟩ := h.csTurn hinv hspi hcs
    cases f with
    | stuck => trivial
    | stopped t =>
      obtain ⟨hdisc, hidle, hend⟩ := hturn
      exact ⟨hidle, hend, [call], happends, hdisc⟩
    | passed t =>
      obtain ⟨hdisc, -, hcs'⟩ := hturn
      exact ⟨hcs', [call], happends, hdisc⟩
  | row hf hg ih =>
    rename_i n s f g
    obtain ⟨call, happends, hturn⟩ := hf.csTurn hinv hspi hcs
    have hprogress := hf.progresses hinv hrun
    have hmoves := (Turns.one hf).moves
    cases f with
    | stuck => trivial
    | stopped t =>
      obtain ⟨hdisc, hidle, hend⟩ := hturn
      exact ⟨hidle, hend, [call], happends, hdisc⟩
    | passed t =>
      obtain ⟨hdisc, hafter, hcs'⟩ := hturn
      obtain ⟨hinv', -, -, -, -, hrun', -⟩ := hprogress
      obtain ⟨m, -, hmoves⟩ := hmoves
      have hop : t.argOp = s.argOp := congrArg (·.1) hmoves.operandsOf_eq
      have happends : t.trace = s.trace ++ [call] := happends
      have hrow := ih t rfl hinv' hrun' (hop ▸ hspi) hcs'
      have hcalls {u : State} (h : ∃ calls, u.trace = t.trace ++ calls ∧
            csDisciplined (csExpected t) calls = true) :
          ∃ calls, u.trace = s.trace ++ calls ∧ csDisciplined (csExpected s) calls = true := by
        obtain ⟨calls, htrace, hrest⟩ := h
        refine ⟨call :: calls, by rw [htrace, happends, List.append_assoc]; rfl, ?_⟩
        rw [csDisciplined_cons, hdisc, hafter, hrest]
        rfl
      change CsRow s (g t)
      cases hgt : g t with
      | stuck => trivial
      | stopped u =>
        rw [hgt] at hrow
        obtain ⟨hidle, hend, hrow⟩ := hrow
        exact ⟨hidle, hend, hcalls hrow⟩
      | passed u =>
        rw [hgt] at hrow
        obtain ⟨hcs'', hrow⟩ := hrow
        exact ⟨hcs'', hcalls hrow⟩

/-- No other move leaves an SPI operation running with chip select elsewhere than its phases expect it. -/
theorem OtherStep.csInv {t : State} (h : OtherStep s t) (hcs : CsInv s)
    (hidle : s.engine = .idle → s.spiLine.cs = false) : CsInv t := by
  cases h with
  | waits | ignored => exact hcs
  | commanded hidle' op dev loc addr data =>
    rcases start_cases (busOf op) op dev loc addr data (turnStart s) with ⟨-, h⟩ | ⟨-, h⟩ <;> rw [h]
    · intro _ _
      refine (hidle hidle').trans ?_
      simp [csExpected]
    · exact nofun
  | illegal hidle' => exact fun hrun => by cases hidle'.symm.trans hrun
  | handle _ bus => cases bus <;> exact hcs
  | cycleEnds _ bus => cases bus <;> exact hcs
  | reset => exact nofun

end

/-- Settles O58: turn by turn, each call's flags against what the phases expect. -/
theorem chipSelectDiscipline : Obligations.ChipSelectDiscipline := by
  intro s t hinv hcsInv hidleCs hstep
  rcases step_cases s with ⟨hrun, hturn⟩ | ⟨u, hnext, hother⟩
  · rcases step_turns hrun hturn with ⟨-, hfault⟩ | ⟨n, f, -, -, hf, hout⟩
    · cases hfault.symm.trans hstep
    obtain ⟨m, -, hmoves⟩ := hf.moves.of_outcome (hout.symm.trans hstep)
    obtain ⟨calls, -, htrace, -⟩ := hmoves.called
    have hop : t.argOp = s.argOp := congrArg (·.1) hmoves.operandsOf_eq
    by_cases hspi : busOf s.argOp = .spi
    · have hrow := Turns.csRow (s := turnStart s) hf hinv hrun hspi (hcsInv hrun hspi)
      have hlevel : csExpected (turnStart s) = s.spiLine.cs := (hcsInv hrun hspi).symm
      rcases (flowOutcome_next f t).1 (hout.symm.trans hstep) with rfl | rfl
      · obtain ⟨hidle, hend, calls, htrace, hdisc⟩ := hrow
        rw [hlevel] at hdisc
        refine ⟨fun h => ?_, fun _ _ _ _ hok => hend hok, calls, htrace, fun _ _ => hdisc⟩
        cases hidle.symm.trans h
      · obtain ⟨hcs, calls, htrace, hdisc⟩ := hrow
        rw [hlevel] at hdisc
        obtain ⟨-, -, -, -, -, hrun', -⟩ := Turns.progresses (s := turnStart s) hf hinv hrun
        refine ⟨fun _ _ => hcs, fun _ _ hidle => ?_, calls, htrace, fun _ _ => hdisc⟩
        cases hrun'.symm.trans hidle
    · exact ⟨fun _ h => absurd (hop ▸ h) hspi, fun _ h => absurd h hspi, calls, htrace,
        fun _ h => absurd h hspi⟩
  · cases hnext.symm.trans hstep
    refine ⟨hother.csInv hcsInv hidleCs, fun hrun hspi hidle hdone => ?_, [],
      hother.trace.trans (List.append_nil _).symm, fun _ _ => rfl⟩
    cases hother with
    | waits h | commanded h | illegal h => cases hrun.symm.trans h
    | ignored => cases hrun.symm.trans hidle
    | handle _ bus => cases bus <;> cases hrun.symm.trans hidle
    | cycleEnds _ bus => cases bus <;> cases hrun.symm.trans hidle
    | reset => cases hdone

end Sys2Proof.Machine
end

section
/-! SUPPORT. The I2C phases: what each leaves where its call succeeds and where it fails. -/

namespace Sys2Proof.Machine

section

variable {s : State}

/-- A request of at most two bytes, which sends none where it receives. -/
def SmallRequest (r : Request) : Prop :=
  r.buf.length ≤ 2 ∧ r.byteCount ≤ 2 ∧ (r.dir = .read → r.buf = [])

/-- The bytes a small request leaves fit in the frame buffer. -/
theorem SmallRequest.lead_le {r : Request} (h : SmallRequest r) (hwf : s.params.wf = true) (a : Reply) :
    (leadOf r a).length ≤ s.params.fbCap := by
  obtain ⟨hbuf, hcount, -⟩ := h
  have hcap := two_le_fbCap hwf
  unfold leadOf
  split
  · omega
  · rename_i hread
    rw [length_received r a hread]
    omega

theorem smallRequest_i2cPrimary (slave : BitVec 7) (reg data : Byte) :
    SmallRequest (.i2cPrimary slave reg data) := ⟨le_rfl, le_rfl, nofun⟩

theorem smallRequest_i2cPoll (slave : BitVec 7) (reg : Byte) : SmallRequest (.i2cPoll slave reg) :=
  ⟨Nat.le_of_ble_eq_true rfl, Nat.le_of_ble_eq_true rfl, nofun⟩

theorem smallRequest_i2cSetup (slave : BitVec 7) (reg : Byte) : SmallRequest (.i2cSetup slave reg) :=
  ⟨Nat.le_of_ble_eq_true rfl, Nat.le_of_ble_eq_true rfl, nofun⟩

theorem smallRequest_i2cRead (slave : BitVec 7) : SmallRequest (.i2cRead slave) :=
  ⟨Nat.le_of_ble_eq_true rfl, Nat.le_of_ble_eq_true rfl, fun _ => rfl⟩

/-- An I2C phase whose call returned: what every phase's call leaves, and the line. -/
theorem answeredCall_i2cPhase {slave : BitVec 7} (k : BitVec 4) {r : Request} (ht : r.target = .i2c slave)
    (hsmall : SmallRequest r) (hwf : s.params.wf = true) :
    answeredCall k r s = { phaseCalled k r s with
      i2cLine := i2cLineAfter r (replyStatus r (nextReply s)) (nextReply s) s.i2cLine } :=
  afterCall_i2cPhase k r s slave ht (hsmall.lead_le hwf _) hsmall.2.2

/-- A phase's call that returns with an effective status. -/
theorem callThen_of_status {k : BitVec 4} {r : Request} {answered : Status → State → Flow} {e : Status}
    (hreturns : (nextReply s).returns = true) (hstatus : replyStatus r (nextReply s) = e) :
    callThen k r answered s = answered e (answeredCall k r s) := by
  rw [callThen_returns _ _ _ hreturns, hstatus]
  rfl

theorem callThen_of_succeeds {k : BitVec 4} {r : Request} {answered : Status → State → Flow}
    (h : Succeeds s r) : callThen k r answered s = answered .ok (answeredCall k r s) :=
  callThen_of_status h.1 h.2

theorem callThen_of_fails {k : BitVec 4} {r : Request} {answered : Status → State → Flow} {e : Status}
    (h : FailsWith s r e) : callThen k r answered s = answered e (answeredCall k r s) :=
  callThen_of_status h.1 h.2.1

/-- A successful call leaves the line as its flags say. -/
theorem answeredCall_of_succeeds_i2c {slave : BitVec 7} (k : BitVec 4) {r : Request}
    (h : Succeeds s r) (ht : r.target = .i2c slave) (hsmall : SmallRequest r) (hwf : s.params.wf = true) :
    answeredCall k r s = { phaseCalled k r s with
      i2cLine := { s.i2cLine with opened := openAfter r.opts s.i2cLine.opened } } := by
  rw [answeredCall_i2cPhase k ht hsmall hwf, h.2]
  rfl

/-- A failing one leaves it as the oracle says (assumption 11). -/
theorem answeredCall_of_fails_i2c {slave : BitVec 7} {e : Status} (k : BitVec 4) {r : Request}
    (h : FailsWith s r e) (ht : r.target = .i2c slave) (hsmall : SmallRequest r) (hwf : s.params.wf = true) :
    answeredCall k r s = { phaseCalled k r s with i2cLine := (nextReply s).i2cAfter } := by
  obtain ⟨-, hstatus, hne⟩ := h
  rw [answeredCall_i2cPhase k ht hsmall hwf, hstatus, i2cLineAfter, if_neg hne]

/-! ### The device's part -/

@[simp] theorem locationInRange_answeredCall (k : BitVec 4) (r : Request) (s : State) :
    locationInRange (answeredCall k r s) = locationInRange s := by
  simp [locationInRange]

/-- A primary write that arrived whole, at a location the device has, begins its write cycle. -/
theorem latchI2c_ok (hrange : locationInRange s = true) (slave : BitVec 7) (reg data : Byte) (a : Reply) :
    latchI2c slave reg data .ok a s = { s with
      i2cMem := writeCell s.i2cMem (i2cCell slave reg) (Config.freeCell s.draws)
      i2cPending := some (i2cCell slave reg, data)
      i2cLine := { s.i2cLine with cycle := true } } := by
  simp [latchI2c, hrange]

/-- One that failed leaves its cell unknown, and nothing a poll could confirm. -/
theorem latchI2c_of_ne_ok (hrange : locationInRange s = true) {e : Status} (he : e ≠ .ok)
    (slave : BitVec 7) (reg data : Byte) (a : Reply) :
    latchI2c slave reg data e a s = { s with
      i2cMem := writeCell s.i2cMem (i2cCell slave reg) (Config.freeCell s.draws)
      i2cPending := none } := by
  simp [latchI2c, hrange, he]

theorem confirmI2c_i2cMem_of_none (h : s.i2cPending = none) : (confirmI2c s).i2cMem = s.i2cMem := by
  simp [confirmI2c, h]

theorem confirmI2c_i2cMem_of_some {addr : Nat} {v : Byte} (h : s.i2cPending = some (addr, v)) :
    (confirmI2c s).i2cMem = writeCell s.i2cMem addr v := by
  simp [confirmI2c, h]

/-! ### The bytes received -/

/-- The first bytes a read leaves in the buffer are those its answer delivers, or 0. -/
theorem getD_received {r : Request} (hread : r.dir = .read) (a : Reply) {n : Nat} (hn : n < r.byteCount) :
    (received r a).getD n 0 = a.bytes.getD n 0 := by
  have hlead : received r a = (a.bytes ++ List.replicate r.byteCount 0).take r.byteCount := by
    simp [received, hread]
  rw [hlead, List.getD_eq_getElem?_getD, List.getElem?_take_of_lt hn, ← List.getD_eq_getElem?_getD,
    getD_append_zeros]

/-- The buffer after a phase that receives: the bytes its answer delivers. -/
theorem fbByte_answeredCall_read (k : BitVec 4) {r : Request} (hread : r.dir = .read) (hsmall : SmallRequest r)
    (hwf : s.params.wf = true) {n : Nat} (hn : n < r.byteCount) :
    fbByte (answeredCall k r s) n = replyByte s n := by
  have hlead : leadOf r (nextReply s) = received r (nextReply s) := by simp [leadOf, hread]
  exact (fbByte_afterCall k r s n (hsmall.lead_le hwf _) hsmall.2.2).trans
    (hlead ▸ getD_received hread (nextReply s) hn)

theorem setWidth_eq_zero_append (b : Byte) : b.setWidth 16 = 0#8 ++ b := by
  simpa using shiftLeft_or_eq_append 0#8 b

/-! ### The answers of each I2C phase -/

theorem primaryAnswered_ok (slave : BitVec 7) (reg data : Byte) (s t : State) :
    primaryAnswered slave reg data s .ok t =
      .passed { latchI2c slave reg data .ok (nextReply s) t with phase := 2, retry := 0 } :=
  if_neg fun h => h.1 rfl

theorem primaryAnswered_abort {slave : BitVec 7} {reg data : Byte} {e : Status} (he : e ≠ .ok)
    (habort : s.params.i2cPrimaryAbort = true) (t : State) :
    primaryAnswered slave reg data s e t =
      .stopped (finish e 0 false 0 (latchI2c slave reg data e (nextReply s) t)) :=
  if_pos ⟨he, habort⟩

theorem primaryAnswered_forget {slave : BitVec 7} {reg data : Byte} {e : Status}
    (hforget : s.params.i2cPrimaryAbort = false) (t : State) :
    primaryAnswered slave reg data s e t =
      .passed { latchI2c slave reg data e (nextReply s) t with phase := 2, retry := 0 } :=
  if_neg fun h => by simp [hforget] at h

end

/-- Settles O25: the flow of a primary write whose call succeeds. -/
theorem primaryWriteGoesOnToThePolls : Obligations.PrimaryWriteGoesOnToThePolls := by
  intro s slave reg data hwf hrange hok
  have hexec : exec (.i2cPrimary slave reg data) s = flowOutcome (primaryFlow slave reg data s) :=
    execI2cPrimary_eq_flow slave reg data s
  rw [hexec, primaryFlow, callThen_of_succeeds hok, primaryAnswered_ok, latchI2c_ok (by simpa using hrange),
    answeredCall_of_succeeds_i2c 1 hok rfl (smallRequest_i2cPrimary slave reg data) hwf]
  rfl

/-- Settles O26: the flow of a primary write whose call fails, by what the configuration makes of it. -/
theorem failedPrimaryWrite : Obligations.FailedPrimaryWrite := by
  intro s slave reg data e hwf hrange hfails
  have hne : e ≠ .ok := hfails.2.2
  have hexec : exec (.i2cPrimary slave reg data) s = flowOutcome (primaryFlow slave reg data s) :=
    execI2cPrimary_eq_flow slave reg data s
  have hcall := answeredCall_of_fails_i2c 1 hfails rfl (smallRequest_i2cPrimary slave reg data) hwf
  have hlatch := latchI2c_of_ne_ok (s := answeredCall 1 (.i2cPrimary slave reg data) s) (by simpa using hrange)
    hne slave reg data (nextReply s)
  rw [hexec, primaryFlow, callThen_of_fails hfails]
  refine ⟨fun habort => ?_, fun hforget => ?_⟩
  · rw [primaryAnswered_abort hne habort, hlatch, hcall]
    rfl
  · rw [primaryAnswered_forget hforget, hlatch, hcall]
    rfl

/-- Settles O28: a failed poll ends the operation or goes on, by the count of polls. -/
theorem failedPollContinuesOrExhausts : Obligations.FailedPollContinuesOrExhausts := by
  intro s slave reg e hwf hrange hfails
  have hne : e ≠ .ok := hfails.2.2
  have hexec : exec (.i2cPoll slave reg) s = flowOutcome (pollFlow slave reg s) :=
    execI2cPoll_eq_flow slave reg s
  have hcall := answeredCall_of_fails_i2c 2 hfails rfl (smallRequest_i2cPoll slave reg) hwf
  rw [hexec, pollFlow, callThen_of_fails hfails, hcall, pollAnswered]
  refine ⟨fun hmore => ?_, fun hlast => ?_⟩
  · rw [if_neg hne]
    exact congrArg flowOutcome (if_neg hmore)
  · rw [if_neg hne]
    exact congrArg flowOutcome (if_pos hlast)

/-- Settles O27: the end of the polls, and the write in progress committed. -/
theorem acknowledgedPollCommits : Obligations.AcknowledgedPollCommits := by
  intro s slave reg hwf hrange hok
  have hexec : exec (.i2cPoll slave reg) s = flowOutcome (pollFlow slave reg s) :=
    execI2cPoll_eq_flow slave reg s
  have hcall := answeredCall_of_succeeds_i2c 2 hok rfl (smallRequest_i2cPoll slave reg) hwf
  have hpending : (answeredCall 2 (.i2cPoll slave reg) s).i2cPending = s.i2cPending := by rw [hcall]; rfl
  have hmem : (answeredCall 2 (.i2cPoll slave reg) s).i2cMem = s.i2cMem := by rw [hcall]; rfl
  rw [hexec, pollFlow, callThen_of_succeeds hok, pollAnswered, if_pos rfl]
  refine ⟨_, rfl, ?_, ?_, ?_, rfl, fun hnone => ?_, fun addr v hsome => ?_⟩
  · exact sameSpi_answeredCall 2 rfl s
  · rw [hcall]
    rfl
  · rw [hcall]
    rfl
  · exact (confirmI2c_i2cMem_of_none (hpending.trans hnone)).trans hmem
  · have hcommit := confirmI2c_i2cMem_of_some (hpending.trans hsome)
    rw [hmem] at hcommit
    refine ⟨?_, fun other hother => ?_⟩
    · exact (congrArg (readCell · addr) hcommit).trans (readCell_writeCell_same _ _ _)
    · exact (congrArg (readCell · other) hcommit).trans (readCell_writeCell_other _ _ _ _ hother)

/-- Settles O29: both phases of a read where their calls succeed. -/
theorem i2cReadPhasesComplete : Obligations.I2cReadPhasesComplete := by
  intro s slave reg hwf hrange
  refine ⟨fun hok => ?_, fun hok => ?_⟩
  · have hexec : exec (.i2cSetup slave reg) s =
        flowOutcome (phaseStep 1 (.i2cSetup slave reg) abortRead s) := rfl
    rw [hexec, phaseStep_eq_callThen, callThen_of_succeeds hok, if_pos rfl,
      answeredCall_of_succeeds_i2c 1 hok rfl (smallRequest_i2cSetup slave reg) hwf]
    rfl
  · have hexec : exec (.i2cRead slave) s = flowOutcome (i2cReadFlow slave s) := execI2cRead_eq_flow slave s
    have hbyte := fbByte_answeredCall_read (s := s) 2 rfl (smallRequest_i2cRead slave) hwf (n := 0) Nat.one_pos
    rw [hexec, i2cReadFlow, callThen_of_succeeds hok, if_pos rfl, hbyte, setWidth_eq_zero_append,
      answeredCall_of_succeeds_i2c 2 hok rfl (smallRequest_i2cRead slave) hwf]
    rfl

/-- Settles O30: both phases of a read where their calls fail. -/
theorem failedI2cReadPhaseAborts : Obligations.FailedI2cReadPhaseAborts := by
  intro s slave reg e hwf hrange
  refine ⟨fun hfails => ?_, fun hfails => ?_⟩
  · have hexec : exec (.i2cSetup slave reg) s =
        flowOutcome (phaseStep 1 (.i2cSetup slave reg) abortRead s) := rfl
    rw [hexec, phaseStep_eq_callThen, callThen_of_fails hfails, if_neg hfails.2.2,
      answeredCall_of_fails_i2c 1 hfails rfl (smallRequest_i2cSetup slave reg) hwf]
    rfl
  · have hexec : exec (.i2cRead slave) s = flowOutcome (i2cReadFlow slave s) := execI2cRead_eq_flow slave s
    rw [hexec, i2cReadFlow, callThen_of_fails hfails, if_neg hfails.2.2,
      answeredCall_of_fails_i2c 2 hfails rfl (smallRequest_i2cRead slave) hwf]
    rfl

end Sys2Proof.Machine
end

section
/-! SUPPORT. The SPI phases: what each leaves of the engine's registers, of the SPI line and of the device's words,
where its call succeeds and where it fails. -/

namespace Sys2Proof.Machine

/-! ## The engine's registers after an SPI phase -/

section

variable {s : State}

theorem smallRequest_spiNineBits (bits : BitVec 9) : SmallRequest (.spiNineBits bits) :=
  ⟨Nat.le_of_ble_eq_true rfl, (by decide : (9 + 7) / 8 ≤ 2), nofun⟩

theorem smallRequest_spiWe : SmallRequest .spiWe :=
  ⟨Nat.le_of_ble_eq_true rfl, Nat.le_of_ble_eq_true rfl, nofun⟩

theorem smallRequest_spiWd : SmallRequest .spiWd :=
  ⟨Nat.le_of_ble_eq_true rfl, Nat.le_of_ble_eq_true rfl, nofun⟩

theorem smallRequest_spiWrOp (a : BitVec 5) : SmallRequest (.spiWrOp a) :=
  ⟨Nat.le_of_ble_eq_true rfl, Nat.le_of_ble_eq_true rfl, nofun⟩

theorem smallRequest_spiWrLo (b : BitVec 3) : SmallRequest (.spiWrLo b) :=
  ⟨Nat.le_of_ble_eq_true rfl, (by decide : (3 + 7) / 8 ≤ 2), nofun⟩

theorem smallRequest_spiWrData (lo hi : Byte) : SmallRequest (.spiWrData lo hi) :=
  ⟨Nat.le_of_ble_eq_true rfl, Nat.le_of_ble_eq_true rfl, nofun⟩

theorem smallRequest_spiStrobe : SmallRequest .spiStrobe :=
  ⟨Nat.le_of_ble_eq_true rfl, Nat.le_of_ble_eq_true rfl, nofun⟩

theorem smallRequest_spiRelease : SmallRequest .spiRelease :=
  ⟨Nat.le_of_ble_eq_true rfl, Nat.le_of_ble_eq_true rfl, nofun⟩

theorem smallRequest_spiRdOp (a : BitVec 5) : SmallRequest (.spiRdOp a) :=
  ⟨Nat.le_of_ble_eq_true rfl, Nat.le_of_ble_eq_true rfl, nofun⟩

theorem smallRequest_spiRdLo (b : BitVec 3) : SmallRequest (.spiRdLo b) :=
  ⟨Nat.le_of_ble_eq_true rfl, (by decide : (4 + 7) / 8 ≤ 2), nofun⟩

theorem smallRequest_spiRdData : SmallRequest .spiRdData :=
  ⟨Nat.le_of_ble_eq_true rfl, Nat.le_of_ble_eq_true rfl, fun _ => rfl⟩

/-- An SPI phase whose call returned: what every phase's call leaves, and the SPI side. -/
theorem answeredCall_spiPhase (k : BitVec 4) {r : Request} (ht : r.target = .spi) (hsmall : SmallRequest r)
    (hwf : s.params.wf = true) :
    answeredCall k r s = { phaseCalled k r s with
      spiLine := spiLineAfter r (replyStatus r (nextReply s)) (nextReply s) (settleSpi s).spiLine
      spiMem := spiMemAfter r (settleSpi s)
      spiPending := spiPendingAfter r (nextReply s) (settleSpi s)
      spiReadySeen := false } :=
  afterCall_spiPhase k r s ht (hsmall.lead_le hwf _) hsmall.2.2

theorem phaseStep_of_fails {k : BitVec 4} {r : Request} {fail : Status → State → State} {e : Status}
    (h : FailsWith s r e) : phaseStep k r fail s = .stopped (fail e (answeredCall k r s)) := by
  rw [phaseStep_eq_callThen, callThen_of_fails h, if_neg h.2.2]

theorem phaseStep_of_succeeds' {k : BitVec 4} {r : Request} {fail : Status → State → State}
    (h : Succeeds s r) : phaseStep k r fail s = .passed { answeredCall k r s with phase := k + 1 } :=
  phaseStep_of_succeeds k fail h

end

/-! ### Where the call succeeds -/

theorem spiPhasePasses_of_flow {i : Instr} {k : BitVec 4} {r : Request} {fail : Status → State → State}
    (hexec : ∀ s, exec i s = flowOutcome (phaseStep k r fail s)) (ht : r.target = .spi)
    (hsmall : SmallRequest r) : SpiPhasePasses i k r := by
  intro s hwf hok
  rw [hexec, phaseStep_of_succeeds' hok]
  refine ⟨_, rfl, ?_, sameI2c_answeredCall k ht s⟩
  rw [answeredCall_spiPhase k ht hsmall hwf]
  rfl

theorem spiPhaseEnds_of_flow {i : Instr} {k : BitVec 4} {r : Request} {data : State → DataWord}
    {busy : State → Bool} {retries : State → BitVec 8}
    (hexec : ∀ s, s.params.wf = true → Succeeds s r →
      exec i s = .next (finish .ok (data s) (busy s) (retries s) (answeredCall k r s)))
    (ht : r.target = .spi) (hsmall : SmallRequest r) : SpiPhaseEnds i k r data busy retries := by
  intro s hwf hok
  refine ⟨_, hexec s hwf hok, sameI2c_answeredCall k ht s, ?_⟩
  rw [answeredCall_spiPhase k ht hsmall hwf]
  rfl

theorem exec_spiWd_of_succeeds {s : State} (hok : Succeeds s .spiWd) :
    exec .spiWd s = .next (finish .ok 0 s.busyLast s.retry (answeredCall 7 .spiWd s)) := by
  have hexec : exec .spiWd s = flowOutcome (writeDisableFlow .spiWd s) := rfl
  rw [hexec, writeDisableFlow_eq_callThen, callThen_of_succeeds hok, if_pos rfl, answeredCall_busyLast,
    answeredCall_retry]
  rfl

theorem exec_spiRdData_eq_of_succeeds {s : State} (hwf : s.params.wf = true) (hok : Succeeds s .spiRdData) :
    exec .spiRdData s = .next (finish .ok (replyByte s 1 ++ replyByte s 0) false 0
      (answeredCall 3 .spiRdData s)) := by
  have hexec : exec .spiRdData s = flowOutcome (readDataFlow s) := rfl
  have hbyte {n : Nat} (hn : n < 2) : fbByte (answeredCall 3 .spiRdData s) n = replyByte s n :=
    fbByte_answeredCall_read 3 rfl smallRequest_spiRdData hwf hn
  rw [hexec, readDataFlow_eq_callThen, callThen_of_succeeds hok, if_pos rfl, hbyte (by decide),
    hbyte (by decide), joinWord_eq_append]
  rfl

/-- Settles O31: phase by phase, through the two ways a phase can succeed. -/
theorem spiPhasesComplete : Obligations.SpiPhasesComplete :=
  ⟨spiPhasePasses_of_flow (fun _ => rfl) rfl smallRequest_spiWe,
    fun a => spiPhasePasses_of_flow (fun _ => rfl) rfl (smallRequest_spiWrOp a),
    fun b => spiPhasePasses_of_flow (fun _ => rfl) rfl (smallRequest_spiWrLo b),
    fun lo hi => spiPhasePasses_of_flow (fun _ => rfl) rfl (smallRequest_spiWrData lo hi),
    spiPhaseEnds_of_flow (fun _ _ hok => exec_spiWd_of_succeeds hok) rfl smallRequest_spiWd,
    fun a => spiPhasePasses_of_flow (fun _ => rfl) rfl (smallRequest_spiRdOp a),
    fun b => spiPhasePasses_of_flow (fun _ => rfl) rfl (smallRequest_spiRdLo b),
    spiPhaseEnds_of_flow (fun _ hwf hok => exec_spiRdData_eq_of_succeeds hwf hok) rfl smallRequest_spiRdData⟩

/-! ### Where the call fails -/

section

variable {i : Instr} {k : BitVec 4} {r : Request}

theorem spiLine_of_fails {s : State} {e : Status} (ht : r.target = .spi) (h : FailsWith s r e) :
    (answeredCall k r s).spiLine = (nextReply s).spiAfter := by
  obtain ⟨-, hstatus, hne⟩ := h
  rw [answeredCall_spi k ht, afterSpiCall_spiLine]
  exact spiLineAfter_of_ne_ok (hstatus ▸ hne) _ _ _

theorem spiPhaseAborts_of_failSpiWrite
    (hexec : ∀ s e, FailsWith s r e → exec i s = .next (failSpiWrite e (answeredCall k r s)))
    (ht : r.target = .spi) (hsmall : SmallRequest r) :
    SpiPhaseAborts i k r (fun _ => 0) (fun s => s.busyLast) (fun s => s.retry) := by
  intro s e hwf hfails
  refine ⟨_, hexec s e hfails, sameI2c_answeredCall k ht s, spiLine_of_fails ht hfails, ?_⟩
  rw [answeredCall_spiPhase k ht hsmall hwf]
  rfl

theorem spiPhaseAborts_of_abortRead
    (hexec : ∀ s e, FailsWith s r e → exec i s = .next (abortRead e (answeredCall k r s)))
    (ht : r.target = .spi) (hsmall : SmallRequest r) :
    SpiPhaseAborts i k r (fun s => Config.freeData (s.draws + 1)) (fun _ => false) (fun _ => 0) := by
  intro s e hwf hfails
  refine ⟨_, hexec s e hfails, sameI2c_answeredCall k ht s, spiLine_of_fails ht hfails, ?_⟩
  rw [answeredCall_spiPhase k ht hsmall hwf]
  rfl

end

/-- Settles O32: phase by phase, through the two ways a failure ends the operation. -/
theorem spiPhasesAbort : Obligations.SpiPhasesAbort := by
  have hstep {k : BitVec 4} {r : Request} {fail : Status → State → State} {s : State} {e : Status}
      (h : FailsWith s r e) : flowOutcome (phaseStep k r fail s) = .next (fail e (answeredCall k r s)) := by
    rw [phaseStep_of_fails h]
    rfl
  refine ⟨spiPhaseAborts_of_failSpiWrite (fun _ _ => hstep) rfl smallRequest_spiWe,
    fun a => spiPhaseAborts_of_failSpiWrite (fun _ _ => hstep) rfl (smallRequest_spiWrOp a),
    fun b => spiPhaseAborts_of_failSpiWrite (fun _ _ => hstep) rfl (smallRequest_spiWrLo b),
    fun lo hi => spiPhaseAborts_of_failSpiWrite (fun _ _ => hstep) rfl (smallRequest_spiWrData lo hi),
    spiPhaseAborts_of_failSpiWrite (fun s e hfails => ?_) rfl smallRequest_spiWd,
    fun a => spiPhaseAborts_of_abortRead (fun _ _ => hstep) rfl (smallRequest_spiRdOp a),
    fun b => spiPhaseAborts_of_abortRead (fun _ _ => hstep) rfl (smallRequest_spiRdLo b),
    spiPhaseAborts_of_abortRead (fun s e hfails => ?_) rfl smallRequest_spiRdData⟩
  · have hexec : exec .spiWd s = flowOutcome (writeDisableFlow .spiWd s) := rfl
    rw [hexec, writeDisableFlow_eq_callThen, callThen_of_fails hfails, if_neg hfails.2.2]
    rfl
  · have hexec : exec .spiRdData s = flowOutcome (readDataFlow s) := rfl
    rw [hexec, readDataFlow_eq_callThen, callThen_of_fails hfails, if_neg hfails.2.2]
    rfl

end Sys2Proof.Machine
end

section
/-! SUPPORT. The SPI line and the device behind it: what a call that uses chip select as it should leaves of
them, within a frame and at the end of one. -/

namespace Sys2Proof.Machine

/-! ## The line within a frame and at its end -/

/-- What an SPI call leaves of a device `d` on which it writes nothing. -/
def SpiLeft (d : State) (line : SpiLine) (t : State) : Prop :=
  t.spiLine = line ∧ t.spiMem = d.spiMem ∧ t.spiPending = d.spiPending ∧ t.spiReadySeen = false

section

variable {s : State}

theorem SpiLeft.of_sameSpi {d t u : State} {line : SpiLine} (h : SpiLeft d line t) (hsame : SameSpi t u) :
    SpiLeft d line u := by
  obtain ⟨hline, hmem, hpending, hseen⟩ := h
  obtain ⟨hline', hpending', hmem', hseen'⟩ := hsame
  exact ⟨hline'.trans hline, hmem'.trans hmem, hpending'.trans hpending, hseen'.trans hseen⟩

/-- Where the ready line has shown nothing new, a word reads as the array holds it. -/
theorem readSpi_of_not_seen {t : State} (h : t.spiReadySeen = false) (A : BitVec 8) :
    readSpi t A = readCell t.spiMem A.toNat := by
  rw [readSpi, settleSpi_of_not_seen t h]

theorem SpiLeft.readSpi_eq {t : State} {line : SpiLine} (h : SpiLeft (settleSpi s) line t) (A : BitVec 8) :
    readSpi t A = readSpi s A := by
  obtain ⟨-, hmem, -, hseen⟩ := h
  rw [readSpi_of_not_seen hseen, hmem, readSpi]

theorem answeredCall_spiMem (k : BitVec 4) {r : Request} (ht : r.target = .spi) :
    (answeredCall k r s).spiMem = spiMemAfter r (settleSpi s) := by
  rw [answeredCall_spi k ht]
  rfl

theorem answeredCall_spiPending (k : BitVec 4) {r : Request} (ht : r.target = .spi) :
    (answeredCall k r s).spiPending = spiPendingAfter r (nextReply s) (settleSpi s) := by
  rw [answeredCall_spi k ht]
  rfl

theorem answeredCall_spiReadySeen (k : BitVec 4) {r : Request} (ht : r.target = .spi) :
    (answeredCall k r s).spiReadySeen = false := by
  rw [answeredCall_spi k ht]
  rfl

theorem answeredCall_spiLine (k : BitVec 4) {r : Request} (ht : r.target = .spi) :
    (answeredCall k r s).spiLine =
      spiLineAfter r (replyStatus r (nextReply s)) (nextReply s) (settleSpi s).spiLine := by
  rw [answeredCall_spi k ht]
  rfl

/-- A call that ends no frame writes nothing. -/
theorem frameWrites_of_not_disable {r : Request} (h : r.opts.chipSelectDisable = false) (l : SpiLine) :
    frameWrites r l = none := by
  simp [frameWrites, h]

/-- A call whose frame writes nothing, and write-disables no busy device, leaves the words and the pending write. -/
theorem spiMemAfter_of_no_write {r : Request} (hwrite : frameWrites r s.spiLine = none)
    (hfits : csMisused r.opts s.spiLine.cs = false) : spiMemAfter r s = s.spiMem := by
  simp [spiMemAfter, hfits, hwrite]

theorem spiPendingAfter_of_no_write {r : Request} (hwrite : frameWrites r s.spiLine = none)
    (hfits : csMisused r.opts s.spiLine.cs = false) (hbusy : disablesBusyDevice r s.spiLine = false)
    (a : Reply) : spiPendingAfter r a s = s.spiPending := by
  simp [spiPendingAfter, hfits, hwrite, hbusy]

/-- A successful call within a frame: the bits go on. -/
theorem spiLeft_within (k : BitVec 4) {r : Request} (ht : r.target = .spi) (hok : Succeeds s r)
    (hfits : csMisused r.opts s.spiLine.cs = false) (hdisable : r.opts.chipSelectDisable = false) :
    SpiLeft (settleSpi s) { (settleSpi s).spiLine with
      cs := r.opts.chipSelectEnable || s.spiLine.cs
      wire := wireAfter r s.spiLine } (answeredCall k r s) := by
  have hwrite := frameWrites_of_not_disable hdisable (settleSpi s).spiLine
  have hbusy : disablesBusyDevice r (settleSpi s).spiLine = false := by simp [disablesBusyDevice, hdisable]
  refine ⟨?_, ?_, ?_, answeredCall_spiReadySeen k ht⟩
  · rw [answeredCall_spiLine k ht, hok.2]
    simp [spiLineAfter, hfits, hdisable, csAfter, wireAfter]
  · rw [answeredCall_spiMem k ht, spiMemAfter_of_no_write hwrite hfits]
  · rw [answeredCall_spiPending k ht, spiPendingAfter_of_no_write hwrite hfits hbusy]

/-- A successful call that ends a frame: its effect on the device, chip select off, nothing sent since. -/
theorem spiLineAfter_frame {r : Request} {a : Reply} {l : SpiLine} (hfits : csMisused r.opts l.cs = false)
    (hdisable : r.opts.chipSelectDisable = true) :
    spiLineAfter r .ok a l = { frameEffect (wireAfter r l) a l with cs := false, wire := [] } := by
  simp [spiLineAfter, hfits, hdisable, csAfter]

/-- A successful call that ends a frame which writes nothing: its effect on the device, chip select off. -/
theorem spiLeft_frame (k : BitVec 4) {r : Request} (ht : r.target = .spi) (hok : Succeeds s r)
    (hfits : csMisused r.opts s.spiLine.cs = false) (hdisable : r.opts.chipSelectDisable = true)
    (hwrite : frameWrites r s.spiLine = none) (hbusy : disablesBusyDevice r (settleSpi s).spiLine = false) :
    SpiLeft (settleSpi s) { frameEffect (wireAfter r s.spiLine) (nextReply s) (settleSpi s).spiLine with
      cs := false, wire := [] } (answeredCall k r s) := by
  refine ⟨?_, ?_, ?_, answeredCall_spiReadySeen k ht⟩
  · rw [answeredCall_spiLine k ht, hok.2, spiLineAfter_frame (l := (settleSpi s).spiLine) hfits hdisable]
    rfl
  · rw [answeredCall_spiMem k ht, spiMemAfter_of_no_write (s := settleSpi s) hwrite hfits]
  · rw [answeredCall_spiPending k ht, spiPendingAfter_of_no_write (s := settleSpi s) hwrite hfits hbusy]

end

/-! ### The effect of each frame -/

section

variable {wire : List Bool} (a : Reply) (l : SpiLine)

theorem frameEffect_nil : frameEffect [] a l = l := if_pos rfl

theorem ne_nil_of_decodeWire {i : Instr} (h : decodeWire wire = .ok i) : wire ≠ [] := by
  rintro rfl
  cases h

theorem frameEffect_writeEnable {x : BitVec 4} (h : decodeWire wire = .ok (.spiFrameWriteEnable x)) :
    frameEffect wire a l = { l with enabled := true } := by
  simp [frameEffect, ne_nil_of_decodeWire h, h]

theorem frameEffect_writeDisable {x : BitVec 4} (h : decodeWire wire = .ok (.spiFrameWriteDisable x))
    (hcycle : l.cycle = false) : frameEffect wire a l = { l with enabled := false } := by
  simp [frameEffect, ne_nil_of_decodeWire h, h, hcycle]

theorem frameEffect_write {A : BitVec 8} {lo hi : Byte} (h : decodeWire wire = .ok (.spiFrameWrite A lo hi)) :
    frameEffect wire a l = { l with cycle := true } := by
  simp [frameEffect, ne_nil_of_decodeWire h, h]

theorem frameEffect_read {A : BitVec 8} (h : decodeWire wire = .ok (.spiFrameRead A)) :
    frameEffect wire a l = l := by
  simp [frameEffect, ne_nil_of_decodeWire h, h]

end

section

variable {r : Request} {l : SpiLine}

theorem frameWrites_of_decodes {i : Instr} (h : decodeWire (wireAfter r l) = .ok i)
    (hi : ∀ A lo hi, i ≠ .spiFrameWrite A lo hi) : frameWrites r l = none := by
  unfold frameWrites
  split
  · rw [h]
    split
    · rename_i A lo hi' heq
      exact absurd (Except.ok.inj heq) (hi A lo hi')
    · rfl
  · rfl

theorem frameWrites_of_read (h : r.dir = .read) (l : SpiLine) : frameWrites r l = none :=
  if_neg fun h' => by simp [h] at h'

theorem frameWrites_write {A : BitVec 8} {lo hi : Byte} (hdisable : r.opts.chipSelectDisable = true)
    (hdir : r.dir = .write) (h : decodeWire (wireAfter r l) = .ok (.spiFrameWrite A lo hi)) :
    frameWrites r l = some (A.toNat, joinWord lo hi) := by
  simp [frameWrites, hdisable, hdir, h]

theorem disablesBusyDevice_of_idle (h : l.cycle = false) : disablesBusyDevice r l = false := by
  simp [disablesBusyDevice, h]

theorem disablesBusyDevice_of_error {e : DecodeError} (h : decodeWire (wireAfter r l) = .error e) :
    disablesBusyDevice r l = false := by
  simp [disablesBusyDevice, h]

theorem disablesBusyDevice_of_decodes {i : Instr} (h : decodeWire (wireAfter r l) = .ok i)
    (hi : ∀ x, i ≠ .spiFrameWriteDisable x) : disablesBusyDevice r l = false := by
  unfold disablesBusyDevice
  rw [h, Bool.and_eq_false_iff]
  refine .inr ?_
  split
  · rename_i x heq
    exact absurd (Except.ok.inj heq) (hi x)
  · rfl

end

/-! ### The bits of each frame -/

theorem bitsOf_append_wrOp (a : BitVec 5) : (Request.spiWrOp a).bits = bitsOf (0b101#3 ++ a) := by
  rw [bits_spiWrOp, bitsOf_append]
  rfl

theorem bitsOf_append_rdOp (a : BitVec 5) : (Request.spiRdOp a).bits = bitsOf (0b110#3 ++ a) := by
  rw [bits_spiRdOp, bitsOf_append]
  rfl

/-- A write frame is its head, on the wire when its data phase begins, and the two bytes. -/
theorem decodeWire_writeData (A : BitVec 8) (lo hi : Byte) :
    decodeWire (bitsOf (0b101#3 ++ A) ++ (Request.spiWrData lo hi).bits) = .ok (.spiFrameWrite A lo hi) := by
  rw [bits_spiWrData, ← decodeWire_write, ← List.append_assoc, ← bitsOf_append, ← bitsOf_append]

theorem bits_spiNineBits (bits : BitVec 9) : (Request.spiNineBits bits).bits = bitsOf bits := by
  have hsplit : bitsOf bits = bitsOf (bits.extractLsb' 1 8) ++ bitsOf (bits.extractLsb' 0 1) := by
    rw [← bitsOf_append]
    exact congrArg bitsOf ((append_extractLsb' bits 0 1 rfl).trans BitVec.extractLsb'_eq_self).symm
  have hlast : bitsOf (bits.extractLsb' 0 1 ++ 0#7) = bitsOf (bits.extractLsb' 0 1) ++ bitsOf 0#7 :=
    bitsOf_append _ _
  rw [Request.bits]
  simp [hlast, hsplit, List.take_append]

/-! ## What each successful phase leaves of the SPI side -/

section

variable {s : State}

/-- Only the end of a write frame touches a word, and only the one it addresses. -/
theorem readSpi_answeredCall (k : BitVec 4) {r : Request} (ht : r.target = .spi) {A : BitVec 8}
    (hfits : csMisused r.opts s.spiLine.cs = false)
    (hwrite : ∀ v, frameWrites r s.spiLine ≠ some (A.toNat, v)) :
    readSpi (answeredCall k r s) A = readSpi s A := by
  have hmem : readCell (spiMemAfter r (settleSpi s)) A.toNat = readCell (settleSpi s).spiMem A.toNat := by
    have hfits' : csMisused r.opts (settleSpi s).spiLine.cs = false := hfits
    cases hframe : frameWrites r (settleSpi s).spiLine with
    | none => rw [spiMemAfter_of_no_write hframe hfits']
    | some write =>
      obtain ⟨addr, v⟩ := write
      have hother : A.toNat ≠ addr := by
        rintro rfl
        exact hwrite v hframe
      simp only [spiMemAfter, hfits', hframe]
      exact readCell_writeCell_other _ _ _ _ hother
  rw [readSpi_of_not_seen (answeredCall_spiReadySeen k ht), answeredCall_spiMem k ht, hmem, readSpi]

theorem wireAfter_of_enable {r : Request} (h : r.opts.chipSelectEnable = true) (l : SpiLine) :
    wireAfter r l = r.bits := by
  simp [wireAfter, h]

theorem wireAfter_of_not_enable {r : Request} (h : r.opts.chipSelectEnable = false) (l : SpiLine) :
    wireAfter r l = l.wire ++ r.bits := by
  simp [wireAfter, h]

theorem decodeWire_nineBits_writeEnable (x : BitVec 4) (l : SpiLine) :
    decodeWire (wireAfter (.spiNineBits (0b10011#5 ++ x)) l) = .ok (.spiFrameWriteEnable x) := by
  rw [wireAfter_of_enable rfl, bits_spiNineBits, decodeWire_writeEnable]

theorem decodeWire_nineBits_writeDisable (x : BitVec 4) (l : SpiLine) :
    decodeWire (wireAfter (.spiNineBits (0b10000#5 ++ x)) l) = .ok (.spiFrameWriteDisable x) := by
  rw [wireAfter_of_enable rfl, bits_spiNineBits, decodeWire_writeDisable]

/-- A call that asserts and deasserts chip select suits a line where it is deasserted. -/
theorem csMisused_nineBits (bits : BitVec 9) {cs : Bool} (hcs : cs = false) :
    csMisused (Request.spiNineBits bits).opts cs = false := by
  subst hcs
  rfl

theorem spiLeft_writeEnable (k : BitVec 4) {x : BitVec 4} (hcs : s.spiLine.cs = false)
    (hok : Succeeds s (.spiNineBits (0b10011#5 ++ x))) :
    SpiLeft (settleSpi s) { cs := false, wire := [], enabled := true, cycle := (settleSpi s).spiLine.cycle }
      (answeredCall k (.spiNineBits (0b10011#5 ++ x)) s) := by
  have hdec := decodeWire_nineBits_writeEnable x
  have hleft := spiLeft_frame k rfl hok (csMisused_nineBits _ hcs) rfl
    (frameWrites_of_decodes (hdec _) nofun) (disablesBusyDevice_of_decodes (hdec _) nofun)
  rwa [frameEffect_writeEnable _ _ (hdec _)] at hleft

theorem spiLeft_writeDisable (k : BitVec 4) {x : BitVec 4} (hcs : s.spiLine.cs = false)
    (hcycle : (settleSpi s).spiLine.cycle = false) (hok : Succeeds s (.spiNineBits (0b10000#5 ++ x))) :
    SpiLeft (settleSpi s) { cs := false, wire := [], enabled := false, cycle := false }
      (answeredCall k (.spiNineBits (0b10000#5 ++ x)) s) := by
  have hdec := decodeWire_nineBits_writeDisable x
  have hleft := spiLeft_frame k rfl hok (csMisused_nineBits _ hcs) rfl
    (frameWrites_of_decodes (hdec _) nofun) (disablesBusyDevice_of_idle hcycle)
  rwa [frameEffect_writeDisable _ _ (hdec _) hcycle, hcycle] at hleft

theorem spiLeft_writeOpcode (k : BitVec 4) {a : BitVec 5} (hcs : s.spiLine.cs = false)
    (hok : Succeeds s (.spiWrOp a)) :
    SpiLeft (settleSpi s) { (settleSpi s).spiLine with cs := true, wire := bitsOf (0b101#3 ++ a) }
      (answeredCall k (.spiWrOp a) s) := by
  have hleft := spiLeft_within k rfl hok (by rw [hcs]; rfl) rfl
  rwa [wireAfter_of_enable rfl, bitsOf_append_wrOp] at hleft

theorem spiLeft_readOpcode (k : BitVec 4) {a : BitVec 5} (hcs : s.spiLine.cs = false)
    (hok : Succeeds s (.spiRdOp a)) :
    SpiLeft (settleSpi s) { (settleSpi s).spiLine with cs := true, wire := bitsOf (0b110#3 ++ a) }
      (answeredCall k (.spiRdOp a) s) := by
  have hleft := spiLeft_within k rfl hok (by rw [hcs]; rfl) rfl
  rwa [wireAfter_of_enable rfl, bitsOf_append_rdOp] at hleft

theorem spiLeft_writeLow (k : BitVec 4) {b : BitVec 3} (hok : Succeeds s (.spiWrLo b)) :
    SpiLeft (settleSpi s) { (settleSpi s).spiLine with wire := s.spiLine.wire ++ bitsOf b }
      (answeredCall k (.spiWrLo b) s) := by
  have hleft := spiLeft_within k rfl hok rfl rfl
  rwa [wireAfter_of_not_enable rfl, bits_spiWrLo] at hleft

theorem spiLeft_readLow (k : BitVec 4) {b : BitVec 3} (hok : Succeeds s (.spiRdLo b)) :
    SpiLeft (settleSpi s) { (settleSpi s).spiLine with wire := s.spiLine.wire ++ bitsOf b ++ [false] }
      (answeredCall k (.spiRdLo b) s) := by
  have hleft := spiLeft_within k rfl hok rfl rfl
  rwa [wireAfter_of_not_enable rfl, bits_spiRdLo, ← List.append_assoc] at hleft

theorem spiLeft_strobe (k : BitVec 4) (hcs : s.spiLine.cs = false) (hok : Succeeds s .spiStrobe) :
    SpiLeft (settleSpi s) { (settleSpi s).spiLine with cs := true, wire := [] } (answeredCall k .spiStrobe s) :=
  spiLeft_within k rfl hok (by rw [hcs]; rfl) rfl

/-- The release ends a transaction in which nothing was sent: no frame at all. -/
theorem spiLeft_release (k : BitVec 4) (hcs : s.spiLine.cs = true) (hwire : s.spiLine.wire = [])
    (hok : Succeeds s .spiRelease) :
    SpiLeft (settleSpi s) { (settleSpi s).spiLine with cs := false } (answeredCall k .spiRelease s) := by
  have hempty : wireAfter .spiRelease s.spiLine = [] := by rw [wireAfter_of_not_enable rfl, hwire]; rfl
  have herror : decodeWire [] = .error .unknownFrame := rfl
  have hleft := spiLeft_frame k rfl hok (by rw [hcs]; rfl) rfl
    (by simp [frameWrites, hempty, herror]) (disablesBusyDevice_of_error (hempty ▸ herror))
  rw [hempty, frameEffect_nil] at hleft
  simpa [hwire] using hleft

theorem spiLeft_readData (k : BitVec 4) {A : BitVec 8} (hcs : s.spiLine.cs = true)
    (hwire : s.spiLine.wire = bitsOf (0b110#3 ++ A ++ 0#1)) (hok : Succeeds s .spiRdData) :
    SpiLeft (settleSpi s) { (settleSpi s).spiLine with cs := false, wire := [] }
      (answeredCall k .spiRdData s) := by
  have hdec : decodeWire (wireAfter .spiRdData s.spiLine) = .ok (.spiFrameRead A) := by
    rw [wireAfter_of_not_enable rfl, hwire]
    exact (congrArg decodeWire (List.append_nil _)).trans (decodeWire_read A)
  have hleft := spiLeft_frame k rfl hok (by rw [hcs]; rfl) rfl (frameWrites_of_read rfl _)
    (disablesBusyDevice_of_decodes hdec nofun)
  rwa [frameEffect_read _ _ hdec] at hleft

/-- The end of a write frame: the write cycle begun, the word pending, every other one as it was. -/
theorem writeData_leaves (k : BitVec 4) {A : BitVec 8} {lo hi : Byte} (hcs : s.spiLine.cs = true)
    (hwire : s.spiLine.wire = bitsOf (0b101#3 ++ A)) (hok : Succeeds s (.spiWrData lo hi)) :
    (answeredCall k (.spiWrData lo hi) s).spiLine =
        { (settleSpi s).spiLine with cs := false, wire := [], cycle := true } ∧
      (answeredCall k (.spiWrData lo hi) s).spiPending = some (A.toNat, hi ++ lo) ∧
      ∀ B, B ≠ A → readSpi (answeredCall k (.spiWrData lo hi) s) B = readSpi s B := by
  have hdec : decodeWire (wireAfter (.spiWrData lo hi) s.spiLine) = .ok (.spiFrameWrite A lo hi) := by
    rw [wireAfter_of_not_enable rfl, hwire, decodeWire_writeData]
  have hwrites : frameWrites (.spiWrData lo hi) s.spiLine = some (A.toNat, hi ++ lo) := by
    rw [frameWrites_write rfl rfl hdec, joinWord_eq_append]
  have hfits : csMisused (Request.spiWrData lo hi).opts s.spiLine.cs = false := by rw [hcs]; rfl
  have hfits' : csMisused (Request.spiWrData lo hi).opts (settleSpi s).spiLine.cs = false := hfits
  have hwrites' : frameWrites (.spiWrData lo hi) (settleSpi s).spiLine = some (A.toNat, hi ++ lo) := hwrites
  have hdec' : decodeWire (wireAfter (.spiWrData lo hi) (settleSpi s).spiLine) =
    .ok (.spiFrameWrite A lo hi) := hdec
  refine ⟨?_, ?_, fun B hB => readSpi_answeredCall k rfl hfits fun v hv => hB ?_⟩
  · rw [answeredCall_spiLine k rfl, hok.2, spiLineAfter_frame hfits' rfl, frameEffect_write _ _ hdec']
  · rw [answeredCall_spiPending k rfl, spiPendingAfter, hfits', hwrites', hok.2]
    rfl
  · rw [hwrites, Option.some.injEq, Prod.mk.injEq] at hv
    exact (BitVec.eq_of_toNat_eq hv.1).symm

end

end Sys2Proof.Machine
end

section
/-! SUPPORT. The SPI side after each phase, the strobe, the release and the ready-line poll. -/

namespace Sys2Proof.Machine

section

variable {s t : State}

/-- The SPI side after a phase that passed is its call's. -/
theorem sameSpi_of_passes {i : Instr} {k : BitVec 4} {r : Request} {fail : Status → State → State}
    (hexec : exec i s = flowOutcome (phaseStep k r fail s)) (hok : Succeeds s r) (h : exec i s = .next t) :
    SameSpi (answeredCall k r s) t := by
  rw [hexec, phaseStep_of_succeeds' hok] at h
  cases h
  exact ⟨rfl, rfl, rfl, rfl⟩

/-- The SPI side after an operation's last phase is its call's. -/
theorem sameSpi_of_finish {i : Instr} {u : State} {st : Status} {data : DataWord} {busy : Bool}
    {retries : BitVec 8} (hexec : exec i s = .next (finish st data busy retries u))
    (h : exec i s = .next t) : SameSpi u t := by
  cases hexec.symm.trans h
  exact ⟨rfl, rfl, rfl, rfl⟩

theorem SpiLeft.line_mem_pending {d : State} {line : SpiLine} (h : SpiLeft d line t) :
    t.spiLine = line ∧ t.spiMem = d.spiMem ∧ t.spiPending = d.spiPending := by
  obtain ⟨hline, hmem, hpending, -⟩ := h
  exact ⟨hline, hmem, hpending⟩

theorem readSpi_of_sameSpi {u : State} (h : SameSpi t u) (A : BitVec 8) : readSpi u A = readSpi t A := by
  obtain ⟨-, hpending, hmem, hseen⟩ := h
  simp only [readSpi, settleSpi, hpending, hmem, hseen]

end

/-- Settles O33: phase by phase, what its frame or part of a frame does. -/
theorem spiLineFollowsTheFlags : Obligations.SpiLineFollowsTheFlags := by
  intro s d t hwf hd
  subst hd
  refine ⟨fun hcs hok h => ?_, fun a hcs hok h => ?_, fun a hcs hok h => ?_, fun b hok h => ?_,
    fun b hok h => ?_, fun A lo hi hcs hwire hok h => ?_, fun A hcs hwire hok h => ?_, fun hcs hcycle hok h => ?_⟩
  · exact ((spiLeft_writeEnable 1 (x := engineX) hcs hok).of_sameSpi
      (sameSpi_of_passes (fail := failSpiWrite) rfl hok h)).line_mem_pending
  · exact ((spiLeft_writeOpcode 2 hcs hok).of_sameSpi
      (sameSpi_of_passes (fail := failSpiWrite) rfl hok h)).line_mem_pending
  · exact ((spiLeft_readOpcode 1 hcs hok).of_sameSpi
      (sameSpi_of_passes (fail := abortRead) rfl hok h)).line_mem_pending
  · exact ((spiLeft_writeLow 3 hok).of_sameSpi
      (sameSpi_of_passes (fail := failSpiWrite) rfl hok h)).line_mem_pending
  · exact ((spiLeft_readLow 2 hok).of_sameSpi
      (sameSpi_of_passes (fail := abortRead) rfl hok h)).line_mem_pending
  · obtain ⟨hline, hpending, hread⟩ := writeData_leaves 4 hcs hwire hok
    have hsame := sameSpi_of_passes (fail := failSpiWrite) rfl hok h
    exact ⟨hsame.1.trans hline, hsame.2.1.trans hpending, fun B hB =>
      (readSpi_of_sameSpi hsame B).trans (hread B hB)⟩
  · exact ((spiLeft_readData 3 hcs hwire hok).of_sameSpi
      (sameSpi_of_finish (exec_spiRdData_eq_of_succeeds hwf hok) h)).line_mem_pending
  · exact ((spiLeft_writeDisable 7 (x := engineX) hcs hcycle hok).of_sameSpi
      (sameSpi_of_finish (exec_spiWd_of_succeeds hok) h)).line_mem_pending

/-! ## The strobe and the release -/

section

variable {s : State}

theorem outcomeOf_engineTurn_strobe (hrun : s.engine = .running) :
    outcomeOf (engineTurn .strobe s) = flowOutcome (strobeFlow s) := by
  rw [engineTurn, hrun]
  exact spiStrobe_eq_flow s

theorem outcomeOf_engineTurn_isBusy (hrun : s.engine = .running) :
    outcomeOf (engineTurn .isBusy s) = flowOutcome (busyFlow s) := by
  rw [engineTurn, hrun]
  exact spiIsBusy_eq_flow s

theorem outcomeOf_engineTurn_release (hrun : s.engine = .running) :
    outcomeOf (engineTurn .release s) = flowOutcome (phaseStep 6 .spiRelease failSpiWrite s) := by
  rw [engineTurn, hrun]
  rfl

theorem step_strobe (hin : s.inputs = []) (hrun : s.engine = .running) (hop : s.argOp = 2)
    (hphase : s.phase = 5) (hpoll : s.polling = false) : step s = flowOutcome (strobeFlow s) := by
  rw [step_of_no_input hin, sequence_strobe hop hphase hpoll, outcomeOf_engineTurn_strobe hrun]

theorem step_isBusy (hin : s.inputs = []) (hrun : s.engine = .running) (hop : s.argOp = 2)
    (hphase : s.phase = 5) (hpoll : s.polling = true) : step s = flowOutcome (busyFlow s) := by
  rw [step_of_no_input hin, sequence_isBusy hop hphase hpoll, outcomeOf_engineTurn_isBusy hrun]

theorem step_release (hin : s.inputs = []) (hrun : s.engine = .running) (hop : s.argOp = 2)
    (hphase : s.phase = 6) : step s = flowOutcome (phaseStep 6 .spiRelease failSpiWrite s) := by
  rw [step_of_no_input hin, sequence_release hop hphase, outcomeOf_engineTurn_release hrun]

end

/-- Settles O34: the flow of each of the two calls. -/
theorem strobeAndReleaseSteps : Obligations.StrobeAndReleaseSteps := by
  intro s hwf hrun hin hop
  refine ⟨fun hphase hpoll hok => ?_, fun hphase hok => ?_, fun e r hcase hfails => ?_⟩
  · rw [step_strobe hin hrun hop hphase hpoll, strobeFlow, callThen_of_succeeds hok, if_pos rfl]
    refine ⟨_, rfl, sameI2c_answeredCall 5 rfl s, ?_, fun hcs => ?_⟩
    · rw [answeredCall_spiPhase 5 rfl smallRequest_spiStrobe hwf]
      rfl
    · exact (spiLeft_strobe 5 hcs hok).1
  · rw [step_release hin hrun hop hphase, phaseStep_of_succeeds' hok]
    refine ⟨_, rfl, sameI2c_answeredCall 6 rfl s, ?_, fun hcs hwire => ?_⟩
    · rw [answeredCall_spiPhase 6 rfl smallRequest_spiRelease hwf]
      rfl
    · have hleft := spiLeft_release 6 hcs hwire hok
      exact ⟨hleft.1, fun A => (readSpi_of_sameSpi ⟨rfl, rfl, rfl, rfl⟩ A).trans (hleft.readSpi_eq A)⟩
  · rcases hcase with ⟨hphase, hpoll, rfl⟩ | ⟨hphase, rfl⟩
    · rw [step_strobe hin hrun hop hphase hpoll, strobeFlow, callThen_of_fails hfails, if_neg hfails.2.2, hphase]
      refine ⟨_, rfl, sameI2c_answeredCall 5 rfl s, spiLine_of_fails rfl hfails, ?_⟩
      rw [answeredCall_spiPhase 5 rfl smallRequest_spiStrobe hwf]
      rfl
    · rw [step_release hin hrun hop hphase, phaseStep_of_fails hfails, hphase]
      refine ⟨_, rfl, sameI2c_answeredCall 6 rfl s, spiLine_of_fails rfl hfails, ?_⟩
      rw [answeredCall_spiPhase 6 rfl smallRequest_spiRelease hwf]
      rfl

/-! ## The ready-line poll -/

section

variable {s : State}

theorem busyFlow_of_fails (hreturns : (nextReply s).returns = true)
    (hstatus : Status.ofCode (nextReply s).code ≠ .ok) :
    busyFlow s = .stopped (failSpiWrite (Status.ofCode (nextReply s).code) (afterIsBusy (nextReply s) s)) := by
  rw [busyFlow, if_pos hreturns, if_neg hstatus]

theorem busyFlow_again (hreturns : (nextReply s).returns = true)
    (hstatus : Status.ofCode (nextReply s).code = .ok) (hbusy : (nextReply s).busy = true)
    (hmore : (s.retry + 1).toNat < s.params.spiBusyBudget) :
    busyFlow s = .passed (busySampled (nextReply s) s) := by
  rw [busyFlow, if_pos hreturns, if_pos hstatus, if_pos ⟨hbusy, hmore⟩]

theorem busyFlow_leaves (hreturns : (nextReply s).returns = true)
    (hstatus : Status.ofCode (nextReply s).code = .ok)
    (hlast : ¬ ((nextReply s).busy = true ∧ (s.retry + 1).toNat < s.params.spiBusyBudget)) :
    busyFlow s = .passed { busySampled (nextReply s) s with phase := 6, polling := false } := by
  rw [busyFlow, if_pos hreturns, if_pos hstatus, if_neg hlast]

/-! The fields of a state in which the ready line has been sampled. -/

@[simp] theorem busySampled_params (a : Reply) (s : State) : (busySampled a s).params = s.params := by
  simp [busySampled]

@[simp] theorem busySampled_argOp (a : Reply) (s : State) : (busySampled a s).argOp = s.argOp := by
  simp [busySampled]

@[simp] theorem busySampled_argAddr (a : Reply) (s : State) : (busySampled a s).argAddr = s.argAddr := by
  simp [busySampled]

@[simp] theorem busySampled_argData (a : Reply) (s : State) : (busySampled a s).argData = s.argData := by
  simp [busySampled]

@[simp] theorem busySampled_resDone (a : Reply) (s : State) : (busySampled a s).resDone = s.resDone := by
  simp [busySampled]

@[simp] theorem busySampled_phase (a : Reply) (s : State) : (busySampled a s).phase = s.phase := by
  simp [busySampled]

@[simp] theorem busySampled_polling (a : Reply) (s : State) : (busySampled a s).polling = s.polling := by
  simp [busySampled]

@[simp] theorem busySampled_fb (a : Reply) (s : State) : (busySampled a s).fb = s.fb := by
  simp [busySampled]

@[simp] theorem busySampled_i2cLine (a : Reply) (s : State) : (busySampled a s).i2cLine = s.i2cLine := by
  simp [busySampled]

@[simp] theorem busySampled_i2cPending (a : Reply) (s : State) :
    (busySampled a s).i2cPending = s.i2cPending := by
  simp [busySampled]

@[simp] theorem busySampled_i2cMem (a : Reply) (s : State) : (busySampled a s).i2cMem = s.i2cMem := by
  simp [busySampled]

@[simp] theorem busySampled_spiLine (a : Reply) (s : State) : (busySampled a s).spiLine = s.spiLine := by
  simp [busySampled]

@[simp] theorem busySampled_spiPending (a : Reply) (s : State) :
    (busySampled a s).spiPending = s.spiPending := by
  simp [busySampled]

@[simp] theorem busySampled_spiMem (a : Reply) (s : State) : (busySampled a s).spiMem = s.spiMem := by
  simp [busySampled]

@[simp] theorem busySampled_inputs (a : Reply) (s : State) : (busySampled a s).inputs = s.inputs := by
  simp [busySampled]

@[simp] theorem busySampled_retry (a : Reply) (s : State) : (busySampled a s).retry = s.retry + 1 := by
  simp [busySampled]

@[simp] theorem busySampled_replies (a : Reply) (s : State) :
    (busySampled a s).replies = s.replies.tail := by
  simp [busySampled]

@[simp] theorem busySampled_draws (a : Reply) (s : State) : (busySampled a s).draws = s.draws + 1 := by
  simp [busySampled]

@[simp] theorem busySampled_trace (a : Reply) (s : State) :
    (busySampled a s).trace = s.trace ++ [.isBusy (Status.ofCode a.code) a.busy] := by
  simp [busySampled]

@[simp] theorem busySampled_spiReadySeen (a : Reply) (s : State) :
    (busySampled a s).spiReadySeen = (s.spiReadySeen || (s.spiLine.cs && !a.busy)) := by
  simp [busySampled]

/-- A ready line that shows nothing new, for want of a device selected or of a ready one. -/
theorem sameSpi_busySampled {a : Reply} (h : (s.spiLine.cs && !a.busy) = false) :
    SameSpi s (busySampled a s) := by
  simp [SameSpi, h]

/-- A poll that returned `OK` leaves the registers and the devices alone, but for the count of polls. -/
theorem busySampled_leaves (a : Reply) (s : State) :
    let t := busySampled a s
    SameI2c s t ∧ t.fb = s.fb ∧ t.retry = s.retry + 1 ∧
      t.trace = s.trace ++ [.isBusy (Status.ofCode a.code) a.busy] ∧ t.draws = s.draws + 1 ∧
      t.replies = s.replies.tail ∧ t.argAddr = s.argAddr ∧ t.argData = s.argData ∧ t.params = s.params ∧
      t.spiLine = s.spiLine ∧ t.spiPending = s.spiPending ∧ t.spiMem = s.spiMem := by
  simp [SameI2c]

/-- One that failed leaves them alone too, but for the result. -/
theorem failedPoll_leaves (e : Status) (a : Reply) (s : State) :
    let t := failSpiWrite e (afterIsBusy a s)
    SameI2c s t ∧ t.fb = s.fb ∧ t.retry = s.retry + 1 ∧
      t.trace = s.trace ++ [.isBusy (Status.ofCode a.code) a.busy] ∧ t.draws = s.draws + 1 ∧
      t.replies = s.replies.tail ∧ t.argAddr = s.argAddr ∧ t.argData = s.argData ∧ t.params = s.params ∧
      SameSpi s t := by
  simp [SameI2c, SameSpi, failSpiWrite]

end

/-- Settles O35: the three ways a poll can go. -/
theorem busyPollStep : Obligations.BusyPollStep := by
  intro s a hwf hrun hin hop hphase hpoll ha hreturns
  subst ha
  rw [step_isBusy hin hrun hop hphase hpoll]
  have hsampled (A : BitVec 8) := readSpi_noteReady (nextReply s).busy s A
  by_cases hstatus : Status.ofCode (nextReply s).code = .ok
  · by_cases hmore : (nextReply s).busy = true ∧ (s.retry + 1).toNat < s.params.spiBusyBudget
    · obtain ⟨hbusy, hbudget⟩ := hmore
      rw [busyFlow_again hreturns hstatus hbusy hbudget]
      have hsame : SameSpi s (busySampled (nextReply s) s) := sameSpi_busySampled (by simp [hbusy])
      have hnotReady : (nextReply s).busy ≠ false := by simp [hbusy]
      obtain ⟨hi2c, hfb, hretry, htrace, hdraws, hreplies, haddr, hdata, hparams, hline, hpending, hmem⟩ :=
        busySampled_leaves (nextReply s) s
      exact ⟨_, rfl, hi2c, hfb, hretry, htrace, hdraws, hreplies, haddr, hdata, hparams, hline, hpending, hmem,
        fun h => absurd hstatus h,
        fun _ _ _ => ⟨hbusy, by simpa using hphase, by simpa using hpoll, hrun, by simp, hsame⟩,
        fun _ _ h => absurd hbudget (by omega),
        fun _ h => absurd h hnotReady, fun _ _ _ h => absurd h hnotReady,
        fun A _ => readSpi_of_sameSpi hsame A⟩
    · rw [busyFlow_leaves hreturns hstatus hmore]
      obtain ⟨hi2c, hfb, hretry, htrace, hdraws, hreplies, haddr, hdata, hparams, hline, hpending, hmem⟩ :=
        busySampled_leaves (nextReply s) s
      have hside : SameSpi (noteReady (nextReply s).busy s)
          { busySampled (nextReply s) s with phase := 6, polling := false } := by simp [SameSpi]
      refine ⟨_, rfl, hi2c, hfb, hretry, htrace, hdraws, hreplies, haddr, hdata, hparams, hline, hpending, hmem,
        fun h => absurd hstatus h, fun _ hbusy hbudget => absurd ⟨hbusy, hbudget⟩ hmore,
        fun _ hbusy _ => ⟨hbusy, rfl, rfl, hrun, by simp, sameSpi_busySampled (by simp [hbusy])⟩,
        fun _ hready => ⟨hready, rfl, rfl, hrun, by simp, fun hcs => by simp [hready, hcs],
          fun hcs => sameSpi_busySampled (by simp [hcs])⟩,
        fun A v _ hready hcs hpending => (readSpi_of_sameSpi hside A).trans ?_,
        fun A hother => (readSpi_of_sameSpi hside A).trans ?_⟩
      · rcases hsampled A with ⟨w, -, -, hpending', hread⟩ | ⟨hnone, -⟩
        · cases hpending.symm.trans hpending'
          exact hread
        · exact absurd hpending (hnone hready hcs v)
      · rcases hsampled A with ⟨w, hready, hcs, hpending, -⟩ | ⟨-, hread⟩
        · exact absurd hpending (hother hstatus hready hcs w)
        · exact hread
  · rw [busyFlow_of_fails hreturns hstatus]
    obtain ⟨hi2c, hfb, hretry, htrace, hdraws, hreplies, haddr, hdata, hparams, hside⟩ :=
      failedPoll_leaves (Status.ofCode (nextReply s).code) (nextReply s) s
    obtain ⟨hline, hpending, hmem, -⟩ := id hside
    exact ⟨_, rfl, hi2c, hfb, hretry, htrace, hdraws, hreplies, haddr, hdata, hparams, hline, hpending, hmem,
      fun _ => ⟨rfl, rfl, rfl, rfl, rfl, rfl, hphase, hside⟩,
      fun h => absurd h hstatus, fun h => absurd h hstatus, fun h => absurd h hstatus,
      fun _ _ h => absurd h hstatus, fun A _ => readSpi_of_sameSpi hside A⟩

end Sys2Proof.Machine
end

section
/-! SUPPORT. The whole wire frames: rows of the phases that send them. -/

namespace Sys2Proof.Machine

/-! ## A row and its parts -/

section

variable {s t : State} {k : BitVec 4} {r : Request} {fail : Status → State → State} {g : State → Flow}

/-- A row whose first phase fails ends as that phase does. -/
theorem row_of_fails {e : Status} (h : FailsWith s r e)
    (hstep : flowOutcome (phaseStep k r fail s) = .next t) :
    flowOutcome (andThen (phaseStep k r fail s) g) = .next t := by
  rw [phaseStep_of_fails h] at hstep ⊢
  exact hstep

/-- A row whose first phase passes goes on from where it leads. -/
theorem row_of_succeeds (h : Succeeds s r) (hstep : flowOutcome (phaseStep k r fail s) = .next t) :
    andThen (phaseStep k r fail s) g = g t := by
  rw [phaseStep_of_succeeds' h] at hstep ⊢
  cases hstep
  rfl

end

/-- Settles O36: a frame is its phases in a row, by definition; each ends the row or hands it on. -/
theorem framesAreTheirTransfers : Obligations.FramesAreTheirTransfers := by
  refine ⟨fun s => ⟨rfl, rfl⟩, fun s t a lo hi hop => ⟨fun e hfails => ?_, fun hok u hlow =>
    ⟨fun e hfails => ?_, fun hok' => ?_⟩⟩, fun s t a hop => ⟨fun e hfails => ?_, fun hok u hlow =>
    ⟨fun e hfails => ?_, fun hok' => ?_⟩⟩⟩
  · exact row_of_fails hfails hop
  · exact (congrArg flowOutcome (row_of_succeeds hok hop)).trans (row_of_fails hfails hlow)
  · exact congrArg flowOutcome ((row_of_succeeds hok hop).trans (row_of_succeeds hok' hlow))
  · exact row_of_fails hfails hop
  · exact (congrArg flowOutcome (row_of_succeeds hok hop)).trans (row_of_fails hfails hlow)
  · exact congrArg flowOutcome ((row_of_succeeds hok hop).trans (row_of_succeeds hok' hlow))

/-! ## The engine's registers after a row of calls -/

/-- The state in which a phase has passed. -/
def passedState (k : BitVec 4) (r : Request) (s : State) : State :=
  { answeredCall k r s with phase := k + 1 }

/-- What the engine sees after these calls, since `b`: the phase, the buffer, the calls made, their answers used. -/
def engineAfter (b : State) (phase : BitVec 4) (fb : List Byte) (calls : List Call) : State :=
  engineView { b with
    phase := phase, fb := fb, trace := b.trace ++ calls
    replies := b.replies.drop calls.length, draws := b.draws + calls.length }

/-- The buffer that a call leaves (10_state R27). -/
def bufferOf (p : Params) (r : Request) (a : Reply) : List Byte :=
  leadOf r a ++ List.replicate (p.fbCap - (leadOf r a).length) 0

section

variable {b s : State} {calls : List Call} {phase : BitVec 4} {fb : List Byte} {r : Request}

theorem nextReply_of_engineAfter (h : engineView s = engineAfter b phase fb calls) :
    nextReply s = replyAt b calls.length :=
  nextReply_congr s (engineAfter b phase fb calls) (congrArg State.replies h :) (congrArg State.draws h :)

theorem params_of_engineAfter (h : engineView s = engineAfter b phase fb calls) : s.params = b.params :=
  (congrArg State.params h :)

theorem wf_of_engineAfter (h : engineView s = engineAfter b phase fb calls) (hwf : b.params.wf = true) :
    s.params.wf = true := by
  rw [params_of_engineAfter h]
  exact hwf

/-- A call more. -/
theorem engineView_answeredCall (k : BitVec 4) (ht : r.target = .spi) (hsmall : SmallRequest r)
    (hwf : b.params.wf = true) (h : engineView s = engineAfter b phase fb calls) {a : Reply}
    (ha : replyAt b calls.length = a) :
    engineView (answeredCall k r s) =
      engineAfter b k (bufferOf b.params r a) (calls ++ [recordOf r a]) := by
  have hcalled : engineView (answeredCall k r s) = engineView (phaseCalled k r (engineView s)) := by
    rw [answeredCall_spiPhase k ht hsmall (wf_of_engineAfter h hwf)]
    rfl
  have hreply : nextReply (engineAfter b phase fb calls) = a := ha
  rw [hcalled, h]
  simp only [phaseCalled, hreply]
  cases hdir : r.dir <;> simp [engineAfter, engineView, bufferOf, leadOf, recordOf, hdir, Nat.add_assoc]

theorem engineView_passedState (k : BitVec 4) (ht : r.target = .spi) (hsmall : SmallRequest r)
    (hwf : b.params.wf = true) (h : engineView s = engineAfter b phase fb calls) {a : Reply}
    (ha : replyAt b calls.length = a) :
    engineView (passedState k r s) =
      engineAfter b (k + 1) (bufferOf b.params r a) (calls ++ [recordOf r a]) :=
  congrArg (fun u : State => { u with phase := k + 1 }) (engineView_answeredCall k ht hsmall hwf h ha)

end

/-! ## The device after the first two calls of a frame -/

section

variable {s t u : State}

theorem SpiLeft.trans {d : State} {line line' : SpiLine} (hst : SpiLeft d line t)
    (htu : SpiLeft (settleSpi t) line' u) : SpiLeft d line' u := by
  obtain ⟨-, hmem, hpending, hseen⟩ := hst
  obtain ⟨hline', hmem', hpending', hseen'⟩ := htu
  rw [settleSpi_of_not_seen t hseen] at hmem' hpending'
  exact ⟨hline', hmem'.trans hmem, hpending'.trans hpending, hseen'⟩

/-- A call within a frame adds its bits to what was sent. -/
theorem SpiLeft.sends {d : State} {line : SpiLine} {bits : List Bool} (hst : SpiLeft d line t)
    (htu : SpiLeft (settleSpi t) { (settleSpi t).spiLine with wire := t.spiLine.wire ++ bits } u) :
    SpiLeft d { line with wire := line.wire ++ bits } u := by
  have hwhole := hst.trans htu
  obtain ⟨hline, -, -, hseen⟩ := hst
  rwa [settleSpi_of_not_seen t hseen, hline] at hwhole

theorem spiLeft_passedState {d : State} {line : SpiLine} {k : BitVec 4} {r : Request}
    (h : SpiLeft d line (answeredCall k r s)) : SpiLeft d line (passedState k r s) := h

theorem bitsOf_writeHead (A : BitVec 8) :
    bitsOf (0b101#3 ++ hi5 A) ++ bitsOf (lo3 A) = bitsOf (0b101#3 ++ A) := by
  rw [bitsOf_append, bitsOf_append, List.append_assoc, bitsOf_hi5_append_bitsOf_lo3]

theorem bitsOf_readHead (A : BitVec 8) :
    bitsOf (0b110#3 ++ hi5 A) ++ (bitsOf (lo3 A) ++ [false]) = bitsOf (0b110#3 ++ A ++ 0#1) := by
  rw [bitsOf_append (0b110#3 ++ A) 0#1, bitsOf_append, bitsOf_append, ← bitsOf_hi5_append_bitsOf_lo3]
  simp only [List.append_assoc]
  rfl

/-- The head of a write frame: the opcode, and the address under `PROSE_5_3`. -/
theorem spiLeft_writeHead {k k' : BitVec 4} {A : BitVec 8} (hcs : s.spiLine.cs = false)
    (hop : Succeeds s (.spiWrOp (hi5 A)))
    (hlow : Succeeds (passedState k (.spiWrOp (hi5 A)) s) (.spiWrLo (lo3 A))) :
    SpiLeft (settleSpi s) { (settleSpi s).spiLine with cs := true, wire := bitsOf (0b101#3 ++ A) }
      (passedState k' (.spiWrLo (lo3 A)) (passedState k (.spiWrOp (hi5 A)) s)) := by
  have hhead := (spiLeft_passedState (spiLeft_writeOpcode k hcs hop)).sends (spiLeft_writeLow k' hlow)
  rw [bitsOf_writeHead] at hhead
  exact hhead

/-- The head of a read frame: the opcode, the address under `PROSE_5_3`, the dummy bit. -/
theorem spiLeft_readHead {k k' : BitVec 4} {A : BitVec 8} (hcs : s.spiLine.cs = false)
    (hop : Succeeds s (.spiRdOp (hi5 A)))
    (hlow : Succeeds (passedState k (.spiRdOp (hi5 A)) s) (.spiRdLo (lo3 A))) :
    SpiLeft (settleSpi s) { (settleSpi s).spiLine with cs := true, wire := bitsOf (0b110#3 ++ A ++ 0#1) }
      (passedState k' (.spiRdLo (lo3 A)) (passedState k (.spiRdOp (hi5 A)) s)) := by
  have hsecond := spiLeft_readLow k' hlow
  rw [List.append_assoc] at hsecond
  have hhead := (spiLeft_passedState (spiLeft_readOpcode k hcs hop)).sends hsecond
  rw [bitsOf_readHead] at hhead
  exact hhead

/-! ## The frames whose calls succeed -/

theorem sameI2c_passedState (k : BitVec 4) {r : Request} (ht : r.target = .spi) (s : State) :
    SameI2c s (passedState k r s) := sameI2c_answeredCall k ht s

theorem andThen_of_succeeds {k : BitVec 4} {r : Request} {fail : Status → State → State} (h : Succeeds s r)
    (g : State → Flow) : andThen (phaseStep k r fail s) g = g (passedState k r s) := by
  rw [phaseStep_of_succeeds' h]
  rfl

theorem exec_frameWrite_of_succeeds {A : BitVec 8} {lo hi : Byte} (hop : Succeeds s (.spiWrOp (hi5 A)))
    (hlow : Succeeds (passedState 2 (.spiWrOp (hi5 A)) s) (.spiWrLo (lo3 A)))
    (hdata : Succeeds (passedState 3 (.spiWrLo (lo3 A)) (passedState 2 (.spiWrOp (hi5 A)) s))
      (.spiWrData lo hi)) :
    exec (.spiFrameWrite A lo hi) s = .next (passedState 4 (.spiWrData lo hi)
      (passedState 3 (.spiWrLo (lo3 A)) (passedState 2 (.spiWrOp (hi5 A)) s))) := by
  have hexec : exec (.spiFrameWrite A lo hi) s = flowOutcome (andThen (writeOpcodeFlow (hi5 A) s) fun t =>
    andThen (writeLowFlow (lo3 A) t) fun u => writeDataFlow lo hi u) := rfl
  rw [hexec, writeOpcodeFlow, andThen_of_succeeds hop, writeLowFlow, andThen_of_succeeds hlow, writeDataFlow,
    phaseStep_of_succeeds' hdata]
  rfl

theorem writeDisableFlow_of_succeeds {r : Request} (hok : Succeeds s r) :
    writeDisableFlow r s = .stopped (finish .ok 0 s.busyLast s.retry (answeredCall 7 r s)) := by
  rw [writeDisableFlow_eq_callThen, callThen_of_succeeds hok, if_pos rfl, answeredCall_busyLast,
    answeredCall_retry]

theorem sameSpi_finish (st : Status) (data : DataWord) (busy : Bool) (retries : BitVec 8) (s : State) :
    SameSpi s (finish st data busy retries s) := ⟨rfl, rfl, rfl, rfl⟩

theorem sameI2c_finish (st : Status) (data : DataWord) (busy : Bool) (retries : BitVec 8) (s : State) :
    SameI2c s (finish st data busy retries s) := ⟨rfl, rfl, rfl⟩

theorem exec_frameRead_of_succeeds {A : BitVec 8} (hop : Succeeds s (.spiRdOp (hi5 A)))
    (hlow : Succeeds (passedState 1 (.spiRdOp (hi5 A)) s) (.spiRdLo (lo3 A))) :
    exec (.spiFrameRead A) s =
      exec .spiRdData (passedState 2 (.spiRdLo (lo3 A)) (passedState 1 (.spiRdOp (hi5 A)) s)) := by
  have hexec : exec (.spiFrameRead A) s = flowOutcome (andThen (readOpcodeFlow (hi5 A) s) fun t =>
    andThen (readLowFlow (lo3 A) t) fun u => readDataFlow u) := rfl
  rw [hexec, readOpcodeFlow, andThen_of_succeeds hop, readLowFlow, andThen_of_succeeds hlow]
  rfl

theorem succeeds_of_engineAfter {b : State} {phase : BitVec 4} {fb : List Byte} {calls : List Call}
    {r : Request} {a : Reply} (h : engineView s = engineAfter b phase fb calls)
    (ha : replyAt b calls.length = a) (hreturns : a.returns = true) (hstatus : replyStatus r a = .ok) :
    Succeeds s r := by
  have hreply : nextReply s = a := (nextReply_of_engineAfter h).trans ha
  exact ⟨hreply ▸ hreturns, hreply ▸ hstatus⟩

theorem engineAfter_refl (s : State) : engineView s = engineAfter s s.phase s.fb [] := by
  simp [engineAfter]

end

/-- Settles O37: the two nine-bit frames are one call each; the other two are three, each begun where the
one before it passed. -/
theorem framesComplete : Obligations.FramesComplete := by
  refine ⟨fun s x hwf hok => ?_, fun s x hwf hok => ?_,
    fun s A lo hi a b c hwf ha hb hc hra hsa hrb hsb hrc hsc => ?_,
    fun s A a b c x y hwf ha hb hc hbytes hra hsa hrb hsb hrc hsc => ?_⟩
  · have hexec : exec (.spiFrameWriteEnable x) s =
        flowOutcome (phaseStep 1 (.spiNineBits (0b10011#5 ++ x)) failSpiWrite s) := rfl
    rw [hexec, phaseStep_of_succeeds' hok]
    refine ⟨_, rfl, sameI2c_answeredCall 1 rfl s, ?_, fun hcs => ?_⟩
    · rw [answeredCall_spiPhase 1 rfl (smallRequest_spiNineBits _) hwf]
      rfl
    · have hleft := spiLeft_passedState (spiLeft_writeEnable 1 hcs hok)
      exact ⟨hleft.1, fun B => hleft.readSpi_eq B⟩
  · have hexec : exec (.spiFrameWriteDisable x) s =
        flowOutcome (writeDisableFlow (.spiNineBits (0b10000#5 ++ x)) s) := rfl
    rw [hexec, writeDisableFlow_of_succeeds hok]
    refine ⟨_, rfl, sameI2c_answeredCall 7 rfl s, ?_, fun hcs => ⟨fun B => ?_, fun hcycle => ?_⟩⟩
    · rw [answeredCall_spiPhase 7 rfl (smallRequest_spiNineBits _) hwf]
      rfl
    · refine (readSpi_of_sameSpi (sameSpi_finish _ _ _ _ _) B).trans
        (readSpi_answeredCall 7 rfl (csMisused_nineBits _ hcs) fun v hv => ?_)
      cases (frameWrites_of_decodes (decodeWire_nineBits_writeDisable x _) nofun).symm.trans hv
    · exact (spiLeft_writeDisable 7 hcs hcycle hok).1
  · have h0 := engineAfter_refl s
    have hop := succeeds_of_engineAfter h0 ha hra hsa
    have h1 := engineView_passedState 2 rfl (smallRequest_spiWrOp (hi5 A)) hwf h0 ha
    have hlow := succeeds_of_engineAfter h1 hb hrb hsb
    have h2 := engineView_passedState 3 rfl (smallRequest_spiWrLo (lo3 A)) hwf h1 hb
    have hdata := succeeds_of_engineAfter h2 hc hrc hsc
    have h3 := engineView_passedState 4 rfl (smallRequest_spiWrData lo hi) hwf h2 hc
    refine ⟨_, exec_frameWrite_of_succeeds hop hlow hdata, ?_, ?_, fun hcs => ?_⟩
    · exact ((sameI2c_passedState 2 (r := .spiWrOp (hi5 A)) rfl s).trans
        (sameI2c_passedState 3 (r := .spiWrLo (lo3 A)) rfl _)).trans
        (sameI2c_passedState 4 (r := .spiWrData lo hi) rfl _)
    · exact h3
    · have hhead := spiLeft_writeHead (k' := 3) hcs hop hlow
      obtain ⟨hline, hpending, hread⟩ := writeData_leaves 4 (by rw [hhead.1]) (by rw [hhead.1]) hdata
      refine ⟨?_, hpending, fun B hB => (hread B hB).trans (hhead.readSpi_eq B)⟩
      refine hline.trans ?_
      rw [settleSpi_of_not_seen _ hhead.2.2.2, hhead.1]
      rfl
  · have h0 := engineAfter_refl s
    have hop := succeeds_of_engineAfter h0 ha hra hsa
    have h1 := engineView_passedState 1 rfl (smallRequest_spiRdOp (hi5 A)) hwf h0 ha
    have hlow := succeeds_of_engineAfter h1 hb hrb hsb
    have h2 := engineView_passedState 2 rfl (smallRequest_spiRdLo (lo3 A)) hwf h1 hb
    have hdata := succeeds_of_engineAfter h2 hc hrc hsc
    have h3 := engineView_answeredCall 3 rfl smallRequest_spiRdData hwf h2 hc
    have hreply := (nextReply_of_engineAfter h2).trans hc
    have hbyte (n : Nat) : replyByte (passedState 2 (.spiRdLo (lo3 A)) (passedState 1 (.spiRdOp (hi5 A)) s)) n =
        [x, y].getD n 0 := by rw [replyByte, hreply, hbytes]
    rw [exec_frameRead_of_succeeds hop hlow, exec_spiRdData_eq_of_succeeds (wf_of_engineAfter h2 hwf) hdata,
      hbyte, hbyte]
    refine ⟨_, rfl, ?_, ?_, fun hcs => ?_⟩
    · have hi2c := ((sameI2c_passedState 1 (r := .spiRdOp (hi5 A)) rfl s).trans
        (sameI2c_passedState 2 (r := .spiRdLo (lo3 A)) rfl _)).trans
        (sameI2c_answeredCall 3 (r := .spiRdData) rfl _)
      exact hi2c.trans (sameI2c_finish _ _ _ _ _)
    · have hbuffer : bufferOf s.params .spiRdData c = [x, y] ++ List.replicate (s.params.fbCap - 2) 0 := by
        rw [bufferOf, leadOf_spiRdData c x y hbytes]
        rfl
      rw [hbuffer] at h3
      exact congrArg (finish .ok (y ++ x) false 0) h3
    · have hhead := spiLeft_readHead (k' := 2) hcs hop hlow
      have hleft := hhead.trans (spiLeft_readData 3 (by rw [hhead.1]) (by rw [hhead.1]) hdata)
      have hend := (hleft.of_sameSpi (sameSpi_finish .ok (y ++ x) false 0 _)).line_mem_pending
      rw [settleSpi_of_not_seen _ hhead.2.2.2, hhead.1] at hend
      exact hend

end Sys2Proof.Machine
end

section
/-! SUPPORT. Which cell of which device an instruction may change. -/

namespace Sys2Proof.Machine

/-! ## The I2C device's cells -/

section

variable {s t : State}

theorem i2cCell_injective {slave slave' : BitVec 7} {reg reg' : Byte}
    (h : i2cCell slave reg = i2cCell slave' reg') : slave = slave' ∧ reg = reg' := by
  unfold i2cCell at h
  constructor <;> bv_omega

theorem readI2c_of_mem_eq (h : t.i2cMem = s.i2cMem) (slave : BitVec 7) (reg : Byte) :
    readI2c t slave reg = readI2c s slave reg :=
  congrArg (readCell · (i2cCell slave reg)) h

theorem answeredCall_i2cMem (k : BitVec 4) (r : Request) (s : State) :
    (answeredCall k r s).i2cMem = s.i2cMem := by
  cases ht : r.target with
  | i2c slave => simp [answeredCall_i2c k ht]
  | spi => simp [answeredCall_spi k ht]

theorem answeredCall_i2cPending (k : BitVec 4) (r : Request) (s : State) :
    (answeredCall k r s).i2cPending = s.i2cPending := by
  cases ht : r.target with
  | i2c slave => simp [answeredCall_i2c k ht]
  | spi => simp [answeredCall_spi k ht]

/-- A call after which the engine leaves the I2C device alone. -/
theorem readI2c_callThen {k : BitVec 4} {r : Request} {answered : Status → State → Flow} {slave : BitVec 7}
    {reg : Byte} (hmem : ∀ e t, FlowAll (fun u => u.i2cMem = t.i2cMem) (answered e t)) :
    FlowAll (fun t => readI2c t slave reg = readI2c s slave reg) (callThen k r answered s) :=
  flowAll_callThen ((hmem _ _).mono fun _ h =>
    readI2c_of_mem_eq (h.trans (answeredCall_i2cMem k r s)) slave reg)

/-- A primary write to a location in range touches its own cell. -/
theorem readI2c_primaryFlow {sl : BitVec 7} {r data : Byte} (hrange : locationInRange s = true)
    {slave : BitVec 7} {reg : Byte} (hother : ¬ (sl = slave ∧ r = reg)) :
    FlowAll (fun t => readI2c t slave reg = readI2c s slave reg) (primaryFlow sl r data s) := by
  have hcell : i2cCell slave reg ≠ i2cCell sl r := fun h => by
    obtain ⟨rfl, rfl⟩ := i2cCell_injective h
    exact hother ⟨rfl, rfl⟩
  have hlatch (e : Status) : readI2c (latchI2c sl r data e (nextReply s) (answeredCall 1 (.i2cPrimary sl r data) s))
      slave reg = readI2c s slave reg := by
    simp only [readI2c, latchI2c_i2cMem, locationInRange_answeredCall, hrange, if_true, answeredCall_i2cMem]
    exact readCell_writeCell_other _ _ _ _ hcell
  refine flowAll_callThen ?_
  unfold primaryAnswered
  split <;> exact hlatch (replyStatus (.i2cPrimary sl r data) (nextReply s))

/-- An acknowledged poll touches the cell being written; another one touches none. -/
theorem readI2c_pollFlow {sl slave : BitVec 7} {r reg : Byte}
    (hpending : ∀ v, s.i2cPending ≠ some (i2cCell slave reg, v)) :
    FlowAll (fun t => readI2c t slave reg = readI2c s slave reg) (pollFlow sl r s) := by
  have hmem := answeredCall_i2cMem 2 (.i2cPoll sl r) s
  have hkept := answeredCall_i2cPending 2 (.i2cPoll sl r) s
  refine flowAll_callThen ?_
  change FlowAll _ (pollAnswered _ (answeredCall 2 (.i2cPoll sl r) s))
  simp only [pollAnswered]
  split
  · cases hp : s.i2cPending with
    | none => exact readI2c_of_mem_eq ((confirmI2c_i2cMem_of_none (hkept.trans hp)).trans hmem) slave reg
    | some write =>
      obtain ⟨addr, v⟩ := write
      have hcell : i2cCell slave reg ≠ addr := by
        rintro rfl
        exact hpending v hp
      refine (congrArg (readCell · (i2cCell slave reg)) (confirmI2c_i2cMem_of_some (hkept.trans hp))).trans ?_
      rw [readCell_writeCell_other _ _ _ _ hcell]
      exact congrArg (readCell · (i2cCell slave reg)) hmem
  · split <;> exact readI2c_of_mem_eq hmem slave reg

theorem sameI2c_of_busFlow {n : Nat} {F : State → Flow} {i : Instr} (hF : BusFlow .spi n F)
    (hexec : exec i s = flowOutcome (F s)) (h : exec i s = .next t) : SameI2c s t := by
  obtain ⟨m, -, hmoves⟩ := (hF.moves s).of_outcome (hexec.symm.trans h)
  exact hmoves.otherBusKept

theorem sameSpi_of_busFlow {n : Nat} {F : State → Flow} {i : Instr} (hF : BusFlow .i2c n F)
    (hexec : exec i s = flowOutcome (F s)) (h : exec i s = .next t) : SameSpi s t := by
  obtain ⟨m, -, hmoves⟩ := (hF.moves s).of_outcome (hexec.symm.trans h)
  exact hmoves.otherBusKept

/-- A host command touches no device. -/
theorem start_leaves_devices (bus : Bus) (op : BitVec 2) (dev : BitVec 7) (loc : BitVec 11) (addr : BitVec 8)
    (data : DataWord) (s : State) : SameI2c s (start bus op dev loc addr data s) ∧
      SameSpi s (start bus op dev loc addr data s) := by
  rcases start_cases bus op dev loc addr data s with ⟨-, h⟩ | ⟨-, h⟩ <;> rw [h] <;>
    exact ⟨⟨rfl, rfl, rfl⟩, ⟨rfl, rfl, rfl, rfl⟩⟩

theorem readI2c_of_sameI2c (h : SameI2c s t) (slave : BitVec 7) (reg : Byte) :
    readI2c t slave reg = readI2c s slave reg :=
  readI2c_of_mem_eq h.2.2 slave reg

/-! ## The SPI device's words -/

theorem not_writes_of_eq_none {r : Request} {l : SpiLine} (h : frameWrites r l = none) {addr : Nat}
    (v : DataWord) : frameWrites r l ≠ some (addr, v) := by
  rw [h]
  nofun

theorem not_writes_of_not_disable {r : Request} (h : r.opts.chipSelectDisable = false) {l : SpiLine} {addr : Nat}
    (v : DataWord) : frameWrites r l ≠ some (addr, v) :=
  not_writes_of_eq_none (frameWrites_of_not_disable h l) v

/-- A single call that writes no other word. -/
theorem readSpi_callThen {k : BitVec 4} {r : Request} {answered : Status → State → Flow} {A : BitVec 8}
    (ht : r.target = .spi) (hfits : csMisused r.opts s.spiLine.cs = false)
    (hwrite : ∀ v, frameWrites r s.spiLine ≠ some (A.toNat, v))
    (hsame : ∀ e t, FlowAll (SameSpi t) (answered e t)) :
    FlowAll (fun t => readSpi t A = readSpi s A) (callThen k r answered s) :=
  flowAll_callThen ((hsame _ _).mono fun _ h =>
    (readSpi_of_sameSpi h A).trans (readSpi_answeredCall k ht hfits hwrite))

theorem sameSpi_abort {fail : Status → State → State} (h : IsAbort fail) (e : Status) (t : State) :
    SameSpi t (fail e t) := by
  rcases h with rfl | rfl <;> exact ⟨rfl, rfl, rfl, rfl⟩

theorem readSpi_phaseStep {k : BitVec 4} {r : Request} {fail : Status → State → State} {A : BitVec 8}
    (hfail : IsAbort fail) (ht : r.target = .spi) (hfits : csMisused r.opts s.spiLine.cs = false)
    (hwrite : ∀ v, frameWrites r s.spiLine ≠ some (A.toNat, v)) :
    FlowAll (fun t => readSpi t A = readSpi s A) (phaseStep k r fail s) := by
  refine readSpi_callThen ht hfits hwrite fun e t => ?_
  split
  · exact ⟨rfl, rfl, rfl, rfl⟩
  · exact sameSpi_abort hfail e t

/-- A row: its first call writes no other word, and neither does what follows where that call succeeds. -/
theorem readSpi_row {k : BitVec 4} {r : Request} {fail : Status → State → State} {A : BitVec 8} {g : State → Flow}
    (hfail : IsAbort fail) (ht : r.target = .spi) (hfits : csMisused r.opts s.spiLine.cs = false)
    (hwrite : ∀ v, frameWrites r s.spiLine ≠ some (A.toNat, v))
    (hnext : Succeeds s r → readSpi (passedState k r s) A = readSpi s A →
      FlowAll (fun t => readSpi t A = readSpi s A) (g (passedState k r s))) :
    FlowAll (fun t => readSpi t A = readSpi s A) (andThen (phaseStep k r fail s) g) := by
  have hfirst := readSpi_phaseStep (k := k) hfail ht hfits hwrite
  rcases phaseStep_cases k r fail s with ⟨-, hc⟩ | ⟨hreturns, hok, hc⟩ | ⟨-, -, hc⟩ <;> rw [hc] at hfirst ⊢
  · trivial
  · exact hnext ⟨hreturns, hok⟩ hfirst
  · exact hfirst

theorem readSpi_writeDisableFlow {bits : BitVec 9} {A : BitVec 8} (hcs : s.spiLine.cs = false)
    (hwrite : frameWrites (.spiNineBits bits) s.spiLine = none) :
    FlowAll (fun t => readSpi t A = readSpi s A) (writeDisableFlow (.spiNineBits bits) s) := by
  rw [writeDisableFlow_eq_callThen]
  refine readSpi_callThen rfl (csMisused_nineBits bits hcs) (not_writes_of_eq_none hwrite) fun e t => ?_
  split <;> exact ⟨rfl, rfl, rfl, rfl⟩

theorem readSpi_readDataFlow {A : BitVec 8} (hcs : s.spiLine.cs = true) :
    FlowAll (fun t => readSpi t A = readSpi s A) (readDataFlow s) := by
  rw [readDataFlow_eq_callThen]
  refine readSpi_callThen rfl (by rw [hcs]; rfl) (not_writes_of_eq_none (frameWrites_of_read rfl _)) fun e t => ?_
  split <;> exact ⟨rfl, rfl, rfl, rfl⟩

/-- Under `PROSE_5_3`'s bits a write frame touches the word it addresses. -/
theorem readSpi_frameWrite {A B : BitVec 8} {lo hi : Byte} (hcs : s.spiLine.cs = false) (hB : B ≠ A) :
    FlowAll (fun t => readSpi t B = readSpi s B) (andThen (writeOpcodeFlow (hi5 A) s) fun t =>
      andThen (writeLowFlow (lo3 A) t) fun u => writeDataFlow lo hi u) := by
  have hwrite : IsAbort failSpiWrite := .inl rfl
  refine readSpi_row hwrite rfl (by rw [hcs]; rfl) (not_writes_of_not_disable rfl) fun hop hread => ?_
  rw [← hread]
  refine readSpi_row hwrite rfl rfl (not_writes_of_not_disable rfl) fun hlow hread' => ?_
  rw [← hread']
  have hhead := spiLeft_writeHead (k' := 3) hcs hop hlow
  refine readSpi_phaseStep hwrite rfl (by rw [hhead.1]; rfl) fun v hv => hB ?_
  have hdec := decodeWire_writeData A lo hi
  rw [hhead.1, frameWrites_write rfl rfl (by rw [wireAfter_of_not_enable rfl]; exact hdec), Option.some.injEq,
    Prod.mk.injEq] at hv
  exact (BitVec.eq_of_toNat_eq hv.1).symm

theorem readSpi_frameRead {A B : BitVec 8} (hcs : s.spiLine.cs = false) :
    FlowAll (fun t => readSpi t B = readSpi s B) (andThen (readOpcodeFlow (hi5 A) s) fun t =>
      andThen (readLowFlow (lo3 A) t) fun u => readDataFlow u) := by
  have hread : IsAbort abortRead := .inr rfl
  refine readSpi_row hread rfl (by rw [hcs]; rfl) (not_writes_of_not_disable rfl) fun hop hkept => ?_
  rw [← hkept]
  refine readSpi_row hread rfl rfl (not_writes_of_not_disable rfl) fun hlow hkept' => ?_
  rw [← hkept']
  have hhead := spiLeft_readHead (k' := 2) hcs hop hlow
  exact readSpi_readDataFlow (by rw [hhead.1])

end

/-! ## Instruction by instruction -/

/-- The I2C part: only the four I2C phases touch the I2C device. -/
theorem readI2c_of_exec {i : Instr} {s t : State} (h : exec i s = .next t) {slave : BitVec 7} {reg : Byte}
    (hprimary : ∀ d, i ≠ .i2cPrimary slave reg d)
    (hrange : (∃ sl r d, i = .i2cPrimary sl r d ∨ i = .i2cPoll sl r ∨ i = .i2cSetup sl r ∨ i = .i2cRead sl) →
      locationInRange s = true)
    (hpoll : (∃ sl r, i = .i2cPoll sl r) → ∀ v, s.i2cPending ≠ some (i2cCell slave reg, v)) :
    readI2c t slave reg = readI2c s slave reg := by
  have hwrite : IsAbort failSpiWrite := .inl rfl
  have hread : IsAbort abortRead := .inr rfl
  have hspi {n : Nat} {F : State → Flow} (hF : BusFlow .spi n F) (hexec : exec i s = flowOutcome (F s)) :
      readI2c t slave reg = readI2c s slave reg :=
    readI2c_of_sameI2c (sameI2c_of_busFlow hF hexec h) slave reg
  cases i with
  | i2cWriteByte | i2cReadByte | spiWriteWord | spiReadWord =>
    cases h
    exact readI2c_of_sameI2c (start_leaves_devices _ _ _ _ _ _ s).1 slave reg
  | i2cPrimary sl r data =>
    refine (readI2c_primaryFlow (hrange ⟨sl, r, data, .inl rfl⟩) fun hsame => ?_).of_outcome
      ((execI2cPrimary_eq_flow sl r data s).symm.trans h)
    obtain ⟨rfl, rfl⟩ := hsame
    exact hprimary data rfl
  | i2cPoll sl r =>
    exact (readI2c_pollFlow (hpoll ⟨sl, r, rfl⟩)).of_outcome ((execI2cPoll_eq_flow sl r s).symm.trans h)
  | i2cSetup sl r =>
    refine (readI2c_callThen (fun e t => ?_)).of_outcome (f := phaseStep 1 (.i2cSetup sl r) abortRead s) h
    split <;> rfl
  | i2cRead sl =>
    refine (readI2c_callThen (fun e t => ?_)).of_outcome ((execI2cRead_eq_flow sl s).symm.trans h)
    split <;> rfl
  | spiWe => exact hspi (.spiStep 1 .spiWe rfl _ hwrite) rfl
  | spiWrOp a => exact hspi (.spiStep 2 (.spiWrOp a) rfl _ hwrite) rfl
  | spiWrLo b => exact hspi (.spiStep 3 (.spiWrLo b) rfl _ hwrite) rfl
  | spiWrData lo hi => exact hspi (.spiStep 4 (.spiWrData lo hi) rfl _ hwrite) rfl
  | spiWd => exact hspi (.writeDisable .spiWd rfl) rfl
  | spiRdOp a => exact hspi (.spiStep 1 (.spiRdOp a) rfl _ hread) rfl
  | spiRdLo b => exact hspi (.spiStep 2 (.spiRdLo b) rfl _ hread) rfl
  | spiRdData => exact hspi .readData rfl
  | spiFrameWriteEnable x => exact hspi (.spiStep 1 (.spiNineBits (0b10011#5 ++ x)) rfl _ hwrite) rfl
  | spiFrameWriteDisable x => exact hspi (.writeDisable (.spiNineBits (0b10000#5 ++ x)) rfl) rfl
  | spiFrameWrite a lo hi =>
    exact hspi (.andThen (.spiStep 2 (.spiWrOp (hi5 a)) rfl _ hwrite)
      (.andThen (.spiStep 3 (.spiWrLo (lo3 a)) rfl _ hwrite) (.spiStep 4 (.spiWrData lo hi) rfl _ hwrite))) rfl
  | spiFrameRead a =>
    exact hspi (.andThen (.spiStep 1 (.spiRdOp (hi5 a)) rfl _ hread)
      (.andThen (.spiStep 2 (.spiRdLo (lo3 a)) rfl _ hread) .readData)) rfl

/-- The SPI part: only the end of a write frame touches a word, the one it addresses. -/
theorem readSpi_of_exec {i : Instr} {s t : State} (h : exec i s = .next t) {A : BitVec 8}
    (hfits : csFits i s.spiLine.cs = true)
    (hdata : ∀ lo hi v, i = .spiWrData lo hi → frameWrites (.spiWrData lo hi) s.spiLine ≠ some (A.toNat, v))
    (hframe : ∀ lo hi, i ≠ .spiFrameWrite A lo hi) : readSpi t A = readSpi s A := by
  have hwrite : IsAbort failSpiWrite := .inl rfl
  have hread : IsAbort abortRead := .inr rfl
  have hi2c {n : Nat} {F : State → Flow} (hF : BusFlow .i2c n F) (hexec : exec i s = flowOutcome (F s)) :
      readSpi t A = readSpi s A :=
    readSpi_of_sameSpi (sameSpi_of_busFlow hF hexec h) A
  have hflow {f : Flow} (hf : FlowAll (fun t => readSpi t A = readSpi s A) f)
      (hexec : exec i s = flowOutcome f) : readSpi t A = readSpi s A := hf.of_outcome (hexec.symm.trans h)
  have hoff (hcs : (!s.spiLine.cs) = true) : s.spiLine.cs = false := by simpa using hcs
  cases i with
  | i2cWriteByte | i2cReadByte | spiWriteWord | spiReadWord =>
    cases h
    exact readSpi_of_sameSpi (start_leaves_devices _ _ _ _ _ _ s).2 A
  | i2cPrimary sl r data => exact hi2c (.primary sl r data) (execI2cPrimary_eq_flow sl r data s)
  | i2cPoll sl r => exact hi2c (.poll sl r) (execI2cPoll_eq_flow sl r s)
  | i2cSetup sl r => exact hi2c (.i2cStep sl 1 (.i2cSetup sl r) rfl _ hread) rfl
  | i2cRead sl => exact hi2c (.i2cRead sl) (execI2cRead_eq_flow sl s)
  | spiWe =>
    exact hflow (readSpi_phaseStep (r := .spiNineBits (0b10011#5 ++ engineX)) hwrite rfl
      (csMisused_nineBits _ (hoff hfits)) (not_writes_of_eq_none
        (frameWrites_of_decodes (decodeWire_nineBits_writeEnable engineX _) nofun))) rfl
  | spiFrameWriteEnable x =>
    exact hflow (readSpi_phaseStep (r := .spiNineBits (0b10011#5 ++ x)) hwrite rfl
      (csMisused_nineBits _ (hoff hfits)) (not_writes_of_eq_none
        (frameWrites_of_decodes (decodeWire_nineBits_writeEnable x _) nofun))) rfl
  | spiWd =>
    exact hflow (readSpi_writeDisableFlow (bits := 0b10000#5 ++ engineX) (hoff hfits)
      (frameWrites_of_decodes (decodeWire_nineBits_writeDisable engineX _) nofun)) rfl
  | spiFrameWriteDisable x =>
    exact hflow (readSpi_writeDisableFlow (bits := 0b10000#5 ++ x) (hoff hfits)
      (frameWrites_of_decodes (decodeWire_nineBits_writeDisable x _) nofun)) rfl
  | spiWrOp a =>
    exact hflow (readSpi_phaseStep hwrite rfl (by rw [hoff hfits]; rfl) (not_writes_of_not_disable rfl)) rfl
  | spiRdOp a =>
    exact hflow (readSpi_phaseStep hread rfl (by rw [hoff hfits]; rfl) (not_writes_of_not_disable rfl)) rfl
  | spiWrLo b => exact hflow (readSpi_phaseStep hwrite rfl rfl (not_writes_of_not_disable rfl)) rfl
  | spiRdLo b => exact hflow (readSpi_phaseStep hread rfl rfl (not_writes_of_not_disable rfl)) rfl
  | spiWrData lo hi =>
    have hcs : s.spiLine.cs = true := hfits
    exact hflow (readSpi_phaseStep hwrite rfl (by rw [hcs]; rfl) fun v => hdata lo hi v rfl) rfl
  | spiRdData => exact hflow (readSpi_readDataFlow hfits) rfl
  | spiFrameWrite B lo hi =>
    exact hflow (readSpi_frameWrite (hoff hfits) fun hA => hframe lo hi (by rw [hA])) rfl
  | spiFrameRead B => exact hflow (readSpi_frameRead (hoff hfits)) rfl

/-- Settles O39: the two devices one after the other. -/
theorem deviceArraysFrame : Obligations.DeviceArraysFrame :=
  fun _ _ _ h => ⟨fun _ _ hprimary hrange hpoll => readI2c_of_exec h hprimary hrange hpoll,
    fun _ hfits hdata hframe => readSpi_of_exec h hfits hdata hframe⟩

end Sys2Proof.Machine
end

section
/-! SUPPORT. What the engine does not see: a view of a state through which every move of the machine can be
followed, for the devices, for the location limit, and for what earlier operations left. -/

namespace Sys2Proof.Machine

/-! ## Flows through a view -/

/-- A flow as two views show it: one of the states it stops in, one of those it passes on. -/
def Flow.seen (w v : State → State) : Flow → Flow
  | .stuck => .stuck
  | .stopped t => .stopped (w t)
  | .passed t => .passed (v t)

/-- Two states that look the same through `v` have flows that look the same. -/
def Respects (w v : State → State) (F : State → Flow) : Prop :=
  ∀ s s', v s = v s' → (F s).seen w v = (F s').seen w v

section

variable {w v : State → State}

theorem Respects.andThen {F G : State → Flow} (hF : Respects w v F) (hG : Respects w v G) :
    Respects w v fun s => Machine.andThen (F s) G := by
  intro s s' h
  have hfirst := hF s s' h
  show (Machine.andThen (F s) G).seen w v = (Machine.andThen (F s') G).seen w v
  cases hs : F s with
  | stuck =>
    cases hs' : F s' with
    | stuck => rfl
    | stopped | passed => rw [hs, hs'] at hfirst; cases hfirst
  | stopped t =>
    cases hs' : F s' with
    | stopped t' => rwa [hs, hs'] at hfirst
    | stuck | passed => rw [hs, hs'] at hfirst; cases hfirst
  | passed t =>
    cases hs' : F s' with
    | passed t' =>
      rw [hs, hs'] at hfirst
      exact hG t t' (Flow.passed.inj hfirst)
    | stuck | stopped => rw [hs, hs'] at hfirst; cases hfirst

/-- A phase's call, followed through a view `c` of the state it leaves. -/
theorem respects_callThen {c : State → State} {k : BitVec 4} {r : Request}
    {answered : State → Status → State → Flow}
    (hreply : ∀ s s', v s = v s' → nextReply s = nextReply s')
    (hcall : ∀ s s', v s = v s' → c (answeredCall k r s) = c (answeredCall k r s'))
    (hanswered : ∀ s s' e t t', v s = v s' → c t = c t' →
      (answered s e t).seen w v = (answered s' e t').seen w v) :
    Respects w v fun s => callThen k r (answered s) s := by
  intro s s' h
  have hreplies := hreply s s' h
  show (callThen k r (answered s) s).seen w v = (callThen k r (answered s') s').seen w v
  cases hreturns : (nextReply s).returns with
  | false => rw [callThen_hangs _ _ _ hreturns, callThen_hangs _ _ _ (hreplies ▸ hreturns)]
  | true =>
    have hstatus : replyStatus r (nextReply s) = replyStatus r (nextReply s') := by rw [hreplies]
    rw [callThen_returns _ _ _ hreturns, callThen_returns _ _ _ (hreplies ▸ hreturns), hstatus]
    exact hanswered s s' _ _ _ h (hcall s s' h)

end

/-! ## The step through a view -/

section

variable {s s' : State}

theorem turnStart_of_nil (hin : s.inputs = []) : turnStart s = s := by
  rw [turnStart, hin, List.tail_nil, ← hin]

/-- A relation on outcomes that relates the turns of two states with the same move: those of a running engine,
and the waiting of an idle one. -/
theorem turn_related {R : Host.Outcome State Fault Refusal → Host.Outcome State Fault Refusal → Prop} {m : Move}
    (hm : ∀ w, m ≠ .word (.command w)) (hengine : s.engine = s'.engine)
    (hturn : s.engine = .running → ∀ bus n F, BusFlow bus n F → R (flowOutcome (F s)) (flowOutcome (F s')))
    (hnone : ∀ o, (∀ t, o ≠ .next t) → R o o) (hwait : R (.next s) (.next s')) :
    R (outcomeOf (engineTurn m s)) (outcomeOf (engineTurn m s')) := by
  cases hrun : s.engine with
  | running =>
    have hrun' := hengine ▸ hrun
    rcases engineTurn_eq_flow hm with ⟨bus, n, F, hF, hflow⟩ | ⟨o, ho, hflow⟩
    · rw [hflow s hrun, hflow s' hrun']
      exact hturn hrun bus n F hF
    · rw [hflow s hrun, hflow s' hrun']
      exact hnone o ho
  | idle =>
    have hidle' := hengine ▸ hrun
    simp only [engineTurn, hrun, hidle']
    exact hwait

/-- A relation on outcomes that relates the steps of two states which have the same moves to come, the same
activity and the same moves of the sequencer: it relates what each move of the machine makes of them. -/
theorem step_related {R : Host.Outcome State Fault Refusal → Host.Outcome State Fault Refusal → Prop}
    (hinputs : s.inputs = s'.inputs) (hengine : s.engine = s'.engine)
    (hseq : sequence s = sequence s') (hframe : sequenceFrame s = sequenceFrame s')
    (hturn : s.engine = .running → ∀ bus n F, BusFlow bus n F →
      R (flowOutcome (F (turnStart s))) (flowOutcome (F (turnStart s'))))
    (hnone : ∀ o, (∀ t, o ≠ .next t) → R o o)
    (hwait : R (.next (turnStart s)) (.next (turnStart s')))
    (hstart : ∀ bus op dev loc addr data, s.engine = .idle →
      R (.next (start bus op dev loc addr data (turnStart s)))
        (.next (start bus op dev loc addr data (turnStart s'))))
    (hillegal : R (.next (illegalCommand (turnStart s))) (.next (illegalCommand (turnStart s'))))
    (hhandle : ∀ bus b, R (.next (driveHandle bus b (turnStart s))) (.next (driveHandle bus b (turnStart s'))))
    (hcycle : ∀ bus, R (.next (endCycle bus (turnStart s))) (.next (endCycle bus (turnStart s'))))
    (hreset : ∀ l p, s.inputs ≠ [] →
      R (.next (resetBlock l p (turnStart s))) (.next (resetBlock l p (turnStart s')))) :
    R (step s) (step s') := by
  have hmove {m : Move} (hm : ∀ w, m ≠ .word (.command w)) :
      R (outcomeOf (engineTurn m (turnStart s))) (outcomeOf (engineTurn m (turnStart s'))) :=
    turn_related hm hengine hturn hnone hwait
  cases hin : s.inputs with
  | nil =>
    have hin' := hinputs ▸ hin
    have hphase := hmove (m := sequence s) (sequence_not_command s)
    rw [turnStart_of_nil hin, turnStart_of_nil hin'] at hphase
    rwa [step_of_no_input hin, step_of_no_input hin', ← hseq]
  | cons move rest =>
    have hin' := hinputs ▸ hin
    have htail := turnStart_of_cons hin
    have htail' := turnStart_of_cons hin'
    cases move with
    | engine =>
      rw [step_of_engine hin, step_of_engine hin', ← hseq, ← htail, ← htail']
      exact hmove (sequence_not_command s)
    | engineFrame =>
      rw [step_of_engineFrame hin, step_of_engineFrame hin', ← hframe, ← htail, ← htail']
      exact hmove (sequenceFrame_not_command s)
    | cmd w =>
      cases hrun : s.engine with
      | running =>
        rw [step_of_command hin, step_of_command hin', ← htail, ← htail',
          commandWrite_of_running (s := turnStart s) w hrun,
          commandWrite_of_running (s := turnStart s') w (hengine ▸ hrun)]
        exact hwait
      | idle =>
        have hidle' := hengine ▸ hrun
        cases hdec : decode (.command w) with
        | ok i =>
          obtain ⟨op, dev, loc, addr, data, -, hexec⟩ := exec_of_legal_command hdec
          rw [step_of_legal_command hin hrun hdec, step_of_legal_command hin' hidle' hdec, hexec, hexec,
            ← htail, ← htail']
          exact hstart _ _ _ _ _ _ hrun
        | error e =>
          rw [step_of_illegal_command hin hrun hdec, step_of_illegal_command hin' hidle' hdec, ← htail,
            ← htail']
          exact hillegal
    | handle bus b =>
      rw [step_handle hin, step_handle hin', ← htail, ← htail']
      exact hhandle bus b
    | cycleEnds bus =>
      rw [step_cycleEnds hin, step_cycleEnds hin', ← htail, ← htail']
      exact hcycle bus
    | reset l p =>
      rw [step_reset hin, step_reset hin', ← htail, ← htail']
      exact hreset l p (by simp [hin])

end

/-! ## The devices and the location limit -/

section

/-- What a call leaves of the engine, in terms of what the engine sees. -/
theorem limitlessView_answeredCall (k : BitVec 4) (r : Request) (s : State) :
    limitlessView (answeredCall k r s) = limitlessView (answeredCall k r (limitlessView s)) := by
  cases ht : r.target with
  | i2c slave =>
    rw [answeredCall_i2c k ht, answeredCall_i2c k ht]
    rfl
  | spi =>
    rw [answeredCall_spi k ht, answeredCall_spi k ht]
    rfl

theorem nextReply_of_limitlessView {s s' : State} (h : limitlessView s = limitlessView s') :
    nextReply s = nextReply s' :=
  nextReply_congr s s' (congrArg State.replies h :) (congrArg State.draws h :)

/-- A phase's call, and an answer that looks the same at states that look the same. -/
theorem limitless_callThen {k : BitVec 4} {r : Request} {answered : State → Status → State → Flow}
    (h : ∀ s s' e t t', limitlessView s = limitlessView s' → limitlessView t = limitlessView t' →
      (answered s e t).seen limitlessView limitlessView = (answered s' e t').seen limitlessView limitlessView) :
    Respects limitlessView limitlessView fun s => callThen k r (answered s) s := by
  refine respects_callThen (fun _ _ => nextReply_of_limitlessView) (fun s s' hs => ?_) h
  rw [limitlessView_answeredCall, limitlessView_answeredCall k r s', hs]

theorem limitlessView_abort {fail : Status → State → State} (hfail : IsAbort fail) (e : Status) (t : State) :
    limitlessView (fail e t) = fail e (limitlessView t) := by
  rcases hfail with rfl | rfl <;> rfl

theorem limitlessView_latchI2c (slave : BitVec 7) (reg data : Byte) (e : Status) (a : Reply) (t : State) :
    limitlessView (latchI2c slave reg data e a t) = limitlessView t := rfl

theorem limitlessView_finish (st : Status) (data : DataWord) (busy : Bool) (n : BitVec 8) (t : State) :
    limitlessView (finish st data busy n t) = finish st data busy n (limitlessView t) := rfl

theorem limitless_phaseStep (k : BitVec 4) (r : Request) {fail : Status → State → State} (hfail : IsAbort fail) :
    Respects limitlessView limitlessView (phaseStep k r fail) := by
  refine limitless_callThen (answered := fun _ e t =>
    if e = .ok then .passed { t with phase := k + 1 } else .stopped (fail e t)) fun s s' e t t' _ h => ?_
  split
  · exact congrArg (fun u : State => Flow.passed { u with phase := k + 1 }) h
  · show Flow.stopped _ = .stopped _
    rw [limitlessView_abort hfail, limitlessView_abort hfail, h]

/-- Every flow looks the same, to the engine, at states that look the same. -/
theorem BusFlow.respects_limitlessView {bus : Bus} {n : Nat} {F : State → Flow} (hF : BusFlow bus n F) :
    Respects limitlessView limitlessView F := by
  induction hF with
  | i2cStep slave k r ht fail hfail => exact limitless_phaseStep k r hfail
  | spiStep k r ht fail hfail => exact limitless_phaseStep k r hfail
  | primary slave reg data =>
    refine limitless_callThen (answered := primaryAnswered slave reg data) fun s s' e t t' hs h => ?_
    have habort : s.params.i2cPrimaryAbort = s'.params.i2cPrimaryAbort :=
      (congrArg (fun u : State => u.params.i2cPrimaryAbort) hs :)
    unfold primaryAnswered
    rw [habort]
    split
    · show Flow.stopped _ = .stopped _
      rw [limitlessView_finish, limitlessView_finish, limitlessView_latchI2c, limitlessView_latchI2c, h]
    · exact congrArg (fun u : State => Flow.passed { u with phase := 2, retry := 0 }) h
  | poll slave reg =>
    refine limitless_callThen (answered := fun _ => pollAnswered) fun s s' e t t' _ h => ?_
    have hretry : t.retry = t'.retry := (congrArg State.retry h :)
    have hbudget : t.params.i2cRetryBudget = t'.params.i2cRetryBudget :=
      (congrArg (fun u : State => u.params.i2cRetryBudget) h :)
    simp only [pollAnswered, hretry, hbudget]
    split
    · exact congrArg (fun u : State => Flow.stopped (finish .ok 0 false (t'.retry + 1)
        { u with retry := t'.retry + 1 })) h
    · split
      · exact congrArg (fun u : State => Flow.stopped (finish e 0 false (t'.retry + 1)
          { u with retry := t'.retry + 1 })) h
      · exact congrArg (fun u : State => Flow.passed { u with retry := t'.retry + 1 }) h
  | i2cRead slave =>
    refine limitless_callThen (answered := fun _ e t => .stopped
      (if e = .ok then finish .ok ((fbByte t 0).setWidth 16) false 0 t else abortRead e t))
      fun s s' e t t' _ h => ?_
    split
    · exact congrArg (fun u : State => Flow.stopped (finish .ok ((fbByte u 0).setWidth 16) false 0 u)) h
    · exact congrArg (fun u : State => Flow.stopped (abortRead e u)) h
  | strobe =>
    refine limitless_callThen (answered := fun _ e t =>
      if e = .ok then .passed { t with polling := true, retry := 0 } else .stopped (failSpiWrite e t))
      fun s s' e t t' _ h => ?_
    split
    · exact congrArg (fun u : State => Flow.passed { u with polling := true, retry := 0 }) h
    · exact congrArg (fun u : State => Flow.stopped (failSpiWrite e u)) h
  | isBusy =>
    intro s s' h
    have hreply := nextReply_of_limitlessView h
    have hretry : s.retry = s'.retry := (congrArg State.retry h :)
    have hbudget : s.params.spiBusyBudget = s'.params.spiBusyBudget :=
      (congrArg (fun u : State => u.params.spiBusyBudget) h :)
    simp only [busyFlow, hreply, hretry, hbudget]
    split
    · split
      · split
        · exact congrArg (fun u : State => Flow.passed (busySampled (nextReply s') u)) h
        · exact congrArg (fun u : State =>
            Flow.passed { busySampled (nextReply s') u with phase := 6, polling := false }) h
      · exact congrArg (fun u : State => Flow.stopped
          (failSpiWrite (Status.ofCode (nextReply s').code) (afterIsBusy (nextReply s') u))) h
    · rfl
  | writeDisable r ht =>
    refine limitless_callThen (answered := fun _ e t => .stopped
      (if e = .ok then finish .ok 0 t.busyLast t.retry t else failSpiWrite e t)) fun s s' e t t' _ h => ?_
    split
    · exact congrArg (fun u : State => Flow.stopped (finish .ok 0 u.busyLast u.retry u)) h
    · exact congrArg (fun u : State => Flow.stopped (failSpiWrite e u)) h
  | readData =>
    refine limitless_callThen (answered := fun _ e t => .stopped
      (if e = .ok then finish .ok (joinWord (fbByte t 0) (fbByte t 1)) false 0 t else abortRead e t))
      fun s s' e t t' _ h => ?_
    split
    · exact congrArg (fun u : State => Flow.stopped (finish .ok (joinWord (fbByte u 0) (fbByte u 1)) false 0 u)) h
    · exact congrArg (fun u : State => Flow.stopped (abortRead e u)) h
  | andThen _ _ ihf ihg => exact ihf.andThen ihg

theorem sameUpTo_flowOutcome {v : State → State} {f f' : Flow} (h : f.seen v v = f'.seen v v) :
    sameUpTo v (flowOutcome f) (flowOutcome f') := by
  cases f with
  | stuck =>
    cases f' with
    | stuck => rfl
    | stopped | passed => cases h
  | stopped t =>
    cases f' with
    | stopped t' => exact Flow.stopped.inj h
    | stuck | passed => cases h
  | passed t =>
    cases f' with
    | passed t' => exact Flow.passed.inj h
    | stuck | stopped => cases h

/-- The moves that are no engine's turn look the same too. -/
theorem limitlessView_turnStart {s s' : State} (h : limitlessView s = limitlessView s') :
    limitlessView (turnStart s) = limitlessView (turnStart s') :=
  congrArg (fun u : State => { u with inputs := u.inputs.tail }) h

theorem limitlessView_start {s s' : State} (h : limitlessView s = limitlessView s') (bus : Bus) (op : BitVec 2)
    (dev : BitVec 7) (loc : BitVec 11) (addr : BitVec 8) (data : DataWord) :
    limitlessView (start bus op dev loc addr data s) = limitlessView (start bus op dev loc addr data s') := by
  have hhandle : handleOf bus s = handleOf bus s' := by
    cases bus
    · exact (congrArg State.i2cChValid h :)
    · exact (congrArg State.spiChValid h :)
  unfold start
  rw [hhandle]
  split
  · exact congrArg (accept op dev loc addr data) h
  · exact congrArg (fun u => finish .notOpened 0 false 0 (accept op dev loc addr data u)) h

theorem step_limitlessView {s s' : State} (h : limitlessView s = limitlessView s') :
    sameUpTo limitlessView (step s) (step s') := by
  have hstart := limitlessView_turnStart h
  refine step_related (congrArg State.inputs h :) (congrArg State.engine h :) (congrArg sequence h :)
    (congrArg sequenceFrame h :) (fun _ bus n F hF => ?_) (fun o ho => ?_) hstart
    (fun bus op dev loc addr data _ => limitlessView_start hstart bus op dev loc addr data)
    (congrArg illegalCommand hstart :) (fun bus b => ?_) (fun bus => ?_) (fun l p _ => ?_)
  · exact sameUpTo_flowOutcome (hF.respects_limitlessView _ _ hstart)
  · cases o with
    | next t => exact absurd rfl (ho t)
    | fault | refused => rfl
  · cases bus
    · exact (congrArg (driveHandle .i2c b) hstart :)
    · exact (congrArg (driveHandle .spi b) hstart :)
  · cases bus <;> exact hstart
  · exact (congrArg (fun u => limitlessView (resetBlock l p u)) hstart :)

end

/-- Settles O59: every flow through the view without the devices and the limit; out of range, the primary
write's effect on the device. -/
theorem locationIsNotChecked : Obligations.LocationIsNotChecked := by
  refine ⟨fun s s' h => step_limitlessView h, fun i s s' h => ?_, fun s t slave reg data hrange hexec => ?_⟩
  · rcases exec_eq_start_or i with ⟨bus, op, dev, loc, addr, data, hexec⟩ | hcommand
    · rw [hexec, hexec]
      exact limitlessView_start h bus op dev loc addr data
    · obtain ⟨bus, n, F, -, hF, hexec⟩ := exec_eq_flow hcommand
      rw [hexec, hexec]
      exact sameUpTo_flowOutcome (hF.respects_limitlessView s s' h)
  · have hlatch (e : Status) (a : Reply) (u : State) (hu : locationInRange u = false) :
        (latchI2c slave reg data e a u).i2cMem = [] ∧ (latchI2c slave reg data e a u).i2cPending = none := by
      simp [hu]
    have hflow : FlowAll (fun t => t.i2cMem = [] ∧ t.i2cPending = none) (primaryFlow slave reg data s) := by
      refine flowAll_callThen ?_
      have hcall := hlatch (replyStatus (.i2cPrimary slave reg data) (nextReply s)) (nextReply s)
        (answeredCall 1 (.i2cPrimary slave reg data) s) (by simpa using hrange)
      unfold primaryAnswered
      split <;> exact hcall
    exact hflow.of_outcome ((execI2cPrimary_eq_flow slave reg data s).symm.trans hexec)

/-! ## The parameters -/

/-- No step writes a parameter. -/
theorem step_params {s t : State} (h : step s = .next t) : t.params = s.params := by
  rcases step_cases s with ⟨hrun, hturn⟩ | ⟨u, hnext, hother⟩
  · obtain ⟨-, -, -, -, -, -, -, hparams, -⟩ := phasesLeaveTheOperandsAlone.2 s t hrun h hturn
    exact hparams
  · cases hnext.symm.trans h
    cases hother with
    | waits | ignored | illegal | reset => rfl
    | commanded _ op dev loc addr data =>
      rcases start_cases (busOf op) op dev loc addr data (turnStart s) with ⟨-, hs⟩ | ⟨-, hs⟩ <;> rw [hs] <;> rfl
    | handle _ bus => cases bus <;> rfl
    | cycleEnds _ bus => cases bus <;> rfl

theorem engineView_eq_limitlessView (s : State) :
    engineView s = { limitlessView s with params := s.params } := rfl

/-- Settles O56: by O59's view, the parameters being the same before and after. -/
theorem engineDoesNotSeeTheDevices : Obligations.EngineDoesNotSeeTheDevices := by
  intro s s' h
  have hparams : s.params = s'.params := (congrArg State.params h :)
  have hview : limitlessView s = limitlessView s' :=
    (congrArg (fun u : State => { u with params := { u.params with i2cLocLimit := 0 } }) h :)
  have hsame := step_limitlessView hview
  unfold sameToEngine
  cases ho : step s with
  | next t =>
    cases ho' : step s' with
    | next t' =>
      rw [ho, ho'] at hsame
      have hsame : limitlessView t = limitlessView t' := hsame
      show engineView t = engineView t'
      rw [engineView_eq_limitlessView, engineView_eq_limitlessView, hsame, step_params ho, step_params ho', hparams]
    | fault | refused => rw [ho, ho'] at hsame; exact hsame.elim
  | fault r =>
    cases ho' : step s' with
    | fault => rwa [ho, ho'] at hsame
    | next | refused => rw [ho, ho'] at hsame; exact hsame.elim
  | refused r =>
    cases ho' : step s' with
    | refused => rwa [ho, ho'] at hsame
    | next | fault => rw [ho, ho'] at hsame; exact hsame.elim

/-! ## What earlier operations left -/

/-- A state without what is left in the frame buffer. -/
def forgetBuffer (s : State) : State :=
  { s with fb := [] }

/-- A state without what is left in the result registers. -/
def forgetResults (s : State) : State :=
  { s with resStatus := 0, resData := 0, resBusy := false, resRetries := 0 }

section

/-- A call reads nothing that was left, and leaves the buffer as its bytes make it. -/
theorem forgetResults_answeredCall (k : BitVec 4) (r : Request) (s : State) :
    forgetResults (answeredCall k r s) = answeredCall k r (forgetPast s) := by
  cases ht : r.target with
  | i2c slave =>
    rw [answeredCall_i2c k ht, answeredCall_i2c k ht]
    rfl
  | spi =>
    rw [answeredCall_spi k ht, answeredCall_spi k ht]
    rfl

theorem nextReply_of_forgetPast {s s' : State} (h : forgetPast s = forgetPast s') : nextReply s = nextReply s' :=
  nextReply_congr s s' (congrArg State.replies h :) (congrArg State.draws h :)

theorem forgetful_callThen {k : BitVec 4} {r : Request} {answered : State → Status → State → Flow}
    (h : ∀ s s' e t t', forgetPast s = forgetPast s' → forgetResults t = forgetResults t' →
      (answered s e t).seen forgetBuffer forgetPast = (answered s' e t').seen forgetBuffer forgetPast) :
    Respects forgetBuffer forgetPast fun s => callThen k r (answered s) s := by
  refine respects_callThen (fun _ _ => nextReply_of_forgetPast) (fun s s' hs => ?_) h
  rw [forgetResults_answeredCall, forgetResults_answeredCall k r s', hs]

theorem forgetPast_eq_of_forgetResults_eq {t t' : State} (h : forgetResults t = forgetResults t') :
    forgetPast t = forgetPast t' :=
  (congrArg forgetBuffer h :)

/-- The end of an operation writes every result register, and is the same but for the buffer. -/
theorem forgetBuffer_finish {t t' : State} (h : forgetPast t = forgetPast t') (st : Status) (data : DataWord)
    (busy : Bool) (n : BitVec 8) :
    forgetBuffer (finish st data busy n t) = forgetBuffer (finish st data busy n t') :=
  (congrArg (finish st data busy n) h :)

theorem forgetPast_confirmI2c {t t' : State} (h : forgetPast t = forgetPast t') :
    forgetPast (confirmI2c t) = forgetPast (confirmI2c t') :=
  (congrArg confirmI2c h :)

theorem forgetBuffer_abort {fail : Status → State → State} (hfail : IsAbort fail) (e : Status) {t t' : State}
    (h : forgetPast t = forgetPast t') : forgetBuffer (fail e t) = forgetBuffer (fail e t') := by
  rcases hfail with rfl | rfl
  · exact (congrArg (failSpiWrite e) h :)
  · exact (congrArg (abortRead e) h :)

theorem forgetful_phaseStep (k : BitVec 4) (r : Request) {fail : Status → State → State} (hfail : IsAbort fail) :
    Respects forgetBuffer forgetPast (phaseStep k r fail) := by
  refine forgetful_callThen (answered := fun _ e t =>
    if e = .ok then .passed { t with phase := k + 1 } else .stopped (fail e t)) fun s s' e t t' _ h => ?_
  have hpast := forgetPast_eq_of_forgetResults_eq h
  split
  · exact congrArg (fun u : State => Flow.passed { u with phase := k + 1 }) hpast
  · exact congrArg Flow.stopped (forgetBuffer_abort hfail e hpast)

/-- Every flow reads nothing that was left. -/
theorem BusFlow.respects_forgetPast {bus : Bus} {n : Nat} {F : State → Flow} (hF : BusFlow bus n F) :
    Respects forgetBuffer forgetPast F := by
  induction hF with
  | i2cStep slave k r ht fail hfail => exact forgetful_phaseStep k r hfail
  | spiStep k r ht fail hfail => exact forgetful_phaseStep k r hfail
  | primary slave reg data =>
    refine forgetful_callThen (answered := primaryAnswered slave reg data) fun s s' e t t' hs h => ?_
    have hpast := forgetPast_eq_of_forgetResults_eq h
    have habort : s.params.i2cPrimaryAbort = s'.params.i2cPrimaryAbort :=
      (congrArg (fun u : State => u.params.i2cPrimaryAbort) hs :)
    have hlatch : forgetPast (latchI2c slave reg data e (nextReply s) t) =
        forgetPast (latchI2c slave reg data e (nextReply s') t') := by
      rw [nextReply_of_forgetPast hs]
      exact (congrArg (latchI2c slave reg data e (nextReply s')) hpast :)
    unfold primaryAnswered
    rw [habort]
    split
    · exact congrArg Flow.stopped (forgetBuffer_finish hlatch e 0 false 0)
    · exact congrArg (fun u : State => Flow.passed { u with phase := 2, retry := 0 }) hlatch
  | poll slave reg =>
    refine forgetful_callThen (answered := fun _ => pollAnswered) fun s s' e t t' _ h => ?_
    have hretry : t.retry = t'.retry := (congrArg State.retry h :)
    have hparams : t.params = t'.params := (congrArg State.params h :)
    have hpast : forgetPast { t with retry := t.retry + 1 } = forgetPast { t' with retry := t'.retry + 1 } :=
      (congrArg (fun u : State => { u with retry := u.retry + 1 }) (forgetPast_eq_of_forgetResults_eq h) :)
    unfold pollAnswered
    simp only [hretry, hparams] at hpast ⊢
    split
    · exact congrArg Flow.stopped (forgetBuffer_finish (forgetPast_confirmI2c hpast) .ok 0 false _)
    · split
      · exact congrArg Flow.stopped (forgetBuffer_finish hpast e 0 false _)
      · exact congrArg Flow.passed hpast
  | i2cRead slave =>
    refine forgetful_callThen (answered := fun _ e t => .stopped
      (if e = .ok then finish .ok ((fbByte t 0).setWidth 16) false 0 t else abortRead e t))
      fun s s' e t t' _ h => ?_
    have hpast := forgetPast_eq_of_forgetResults_eq h
    have hbyte : fbByte t 0 = fbByte t' 0 := (congrArg (fbByte · 0) h :)
    rw [hbyte]
    split
    · exact congrArg Flow.stopped (forgetBuffer_finish hpast .ok _ false 0)
    · exact congrArg Flow.stopped (forgetBuffer_abort (.inr rfl) e hpast)
  | strobe =>
    refine forgetful_callThen (answered := fun _ e t =>
      if e = .ok then .passed { t with polling := true, retry := 0 } else .stopped (failSpiWrite e t))
      fun s s' e t t' _ h => ?_
    have hpast := forgetPast_eq_of_forgetResults_eq h
    split
    · exact congrArg (fun u : State => Flow.passed { u with polling := true, retry := 0 }) hpast
    · exact congrArg Flow.stopped (forgetBuffer_abort (.inl rfl) e hpast)
  | isBusy =>
    intro s s' h
    have hreply := nextReply_of_forgetPast h
    have hretry : s.retry = s'.retry := (congrArg State.retry h :)
    have hparams : s.params = s'.params := (congrArg State.params h :)
    simp only [busyFlow, hreply, hretry, hparams]
    split
    · split
      · split
        · exact congrArg (fun u : State => Flow.passed (busySampled (nextReply s') u)) h
        · exact congrArg (fun u : State =>
            Flow.passed { busySampled (nextReply s') u with phase := 6, polling := false }) h
      · exact congrArg Flow.stopped (forgetBuffer_abort (.inl rfl) _ (congrArg (afterIsBusy (nextReply s')) h :))
    · rfl
  | writeDisable r ht =>
    refine forgetful_callThen (answered := fun _ e t => .stopped
      (if e = .ok then finish .ok 0 t.busyLast t.retry t else failSpiWrite e t)) fun s s' e t t' _ h => ?_
    have hpast := forgetPast_eq_of_forgetResults_eq h
    have hbusy : t.busyLast = t'.busyLast := (congrArg State.busyLast h :)
    have hretry : t.retry = t'.retry := (congrArg State.retry h :)
    rw [hbusy, hretry]
    split
    · exact congrArg Flow.stopped (forgetBuffer_finish hpast .ok 0 _ _)
    · exact congrArg Flow.stopped (forgetBuffer_abort (.inl rfl) e hpast)
  | readData =>
    refine forgetful_callThen (answered := fun _ e t => .stopped
      (if e = .ok then finish .ok (joinWord (fbByte t 0) (fbByte t 1)) false 0 t else abortRead e t))
      fun s s' e t t' _ h => ?_
    have hpast := forgetPast_eq_of_forgetResults_eq h
    have hbyte (n : Nat) : fbByte t n = fbByte t' n := (congrArg (fbByte · n) h :)
    rw [hbyte, hbyte]
    split
    · exact congrArg Flow.stopped (forgetBuffer_finish hpast .ok _ false 0)
    · exact congrArg Flow.stopped (forgetBuffer_abort (.inr rfl) e hpast)
  | andThen _ _ ihf ihg => exact ihf.andThen ihg

theorem engine_of_callThen_passed {k : BitVec 4} {r : Request} {answered : Status → State → Flow} {s t : State}
    (hanswered : ∀ e u, answered e u = .passed t → t.engine = u.engine)
    (h : callThen k r answered s = .passed t) : t.engine = s.engine := by
  rcases callThen_cases k r answered s with ⟨-, hc⟩ | ⟨-, hc⟩
  · cases hc.symm.trans h
  · exact (hanswered _ _ (hc.symm.trans h)).trans (answeredCall_engine k r s)

/-- An operation passes from phase to phase running. -/
theorem BusFlow.engine_of_passed {bus : Bus} {n : Nat} {F : State → Flow} (hF : BusFlow bus n F) {s t : State}
    (h : F s = .passed t) : t.engine = s.engine := by
  induction hF generalizing s t with
  | i2cStep | spiStep | strobe =>
    refine engine_of_callThen_passed (fun e u hu => ?_) h
    split at hu <;> cases hu
    rfl
  | primary slave reg data =>
    refine engine_of_callThen_passed (fun e u hu => ?_) h
    unfold primaryAnswered at hu
    split at hu <;> cases hu
    rfl
  | poll slave reg =>
    refine engine_of_callThen_passed (fun e u hu => ?_) h
    simp only [pollAnswered] at hu
    split_ifs at hu
    cases hu
    rfl
  | i2cRead | writeDisable | readData => exact engine_of_callThen_passed (fun e u hu => by cases hu) h
  | isBusy =>
    unfold busyFlow at h
    split_ifs at h <;> cases h <;> rfl
  | andThen hf hg ihf ihg =>
    rename_i m n f g
    rcases andThen_cases (f s) g with ⟨-, hc⟩ | ⟨u, -, hc⟩ | ⟨u, hfirst, hc⟩
    · cases hc.symm.trans h
    · cases hc.symm.trans h
    · exact (ihg (hc.symm.trans h)).trans (ihf hfirst)

theorem forgetPast_start {s s' : State} (h : forgetPast s = forgetPast s') (bus : Bus) (op : BitVec 2)
    (dev : BitVec 7) (loc : BitVec 11) (addr : BitVec 8) (data : DataWord) :
    forgetPast (start bus op dev loc addr data s) = forgetPast (start bus op dev loc addr data s') := by
  have hhandle : handleOf bus s = handleOf bus s' := by
    cases bus
    · exact (congrArg State.i2cChValid h :)
    · exact (congrArg State.spiChValid h :)
  unfold start
  rw [hhandle]
  split
  · exact (congrArg (accept op dev loc addr data) h :)
  · exact (congrArg (fun u => forgetPast (finish .notOpened 0 false 0 (accept op dev loc addr data u))) h :)

/-- The outcome of a step that reads nothing of what was left: the same, and the same result where an operation
ends. -/
def SameResult (s : State) (o o' : Host.Outcome State Fault Refusal) : Prop :=
  ∀ t, o = .next t → ∃ t', o' = .next t' ∧ forgetPast t' = forgetPast t ∧
    (s.engine = .running → t.engine = .idle →
      t'.resStatus = t.resStatus ∧ t'.resData = t.resData ∧ t'.resBusy = t.resBusy ∧
      t'.resRetries = t.resRetries)

theorem sameResult_next {s t t' : State} (h : forgetPast t = forgetPast t')
    (hrun : s.engine = .running → t.engine = .running) : SameResult s (.next t) (.next t') := by
  intro u hu
  cases hu
  refine ⟨t', rfl, h.symm, fun hs hidle => ?_⟩
  cases (hrun hs).symm.trans hidle

theorem sameResult_flow {s : State} {f f' : Flow}
    (h : f.seen forgetBuffer forgetPast = f'.seen forgetBuffer forgetPast)
    (hpassed : ∀ t, f = .passed t → t.engine = s.engine) : SameResult s (flowOutcome f) (flowOutcome f') := by
  cases f with
  | stuck =>
    intro t ht
    cases ht
  | stopped t =>
    cases f' with
    | stopped t' =>
      have hend : forgetBuffer t = forgetBuffer t' := Flow.stopped.inj h
      intro u hu
      cases hu
      exact ⟨t', rfl, (congrArg forgetPast hend :).symm, fun _ _ =>
        ⟨(congrArg State.resStatus hend :).symm, (congrArg State.resData hend :).symm,
          (congrArg State.resBusy hend :).symm, (congrArg State.resRetries hend :).symm⟩⟩
    | stuck | passed => cases h
  | passed t =>
    cases f' with
    | passed t' => exact sameResult_next (Flow.passed.inj h) fun hrun => (hpassed t rfl).trans hrun
    | stuck | stopped => cases h

end

/-- Settles O57: every flow through the view without what was left. -/
theorem engineForgetsThePast : Obligations.EngineForgetsThePast := by
  intro s s' t h
  suffices hsame : SameResult s (step s) (step s') from hsame t
  have hstart : forgetPast (turnStart s) = forgetPast (turnStart s') :=
    (congrArg (fun u : State => { u with inputs := u.inputs.tail }) h :)
  have hengine : s.engine = s'.engine := (congrArg State.engine h :)
  refine step_related (congrArg State.inputs h :) hengine (congrArg sequence h :) (congrArg sequenceFrame h :)
    (fun _ bus n F hF => ?_) (fun o ho t ht => absurd ht (ho t)) (sameResult_next hstart id)
    (fun bus op dev loc addr data hidle => ?_) ?_ (fun bus b => ?_) (fun bus => ?_) (fun l p hinput => ?_)
  · exact sameResult_flow (hF.respects_forgetPast _ _ hstart) fun t ht =>
      hF.engine_of_passed (s := turnStart s) ht
  · exact sameResult_next (forgetPast_start hstart bus op dev loc addr data) fun hrun => by
      cases hrun.symm.trans hidle
  · exact sameResult_next (congrArg (fun u => forgetPast (illegalCommand u)) hstart :) id
  · cases bus
    · exact sameResult_next (congrArg (driveHandle .i2c b) hstart :) id
    · exact sameResult_next (congrArg (driveHandle .spi b) hstart :) id
  · cases bus
    · exact sameResult_next (congrArg (endCycle .i2c) hstart :) id
    · exact sameResult_next (congrArg (endCycle .spi) hstart :) id
  · intro u hu
    cases hu
    exact ⟨_, rfl, (congrArg (fun u => forgetPast (resetBlock l p u)) hstart :).symm,
      fun _ _ => ⟨rfl, rfl, rfl, rfl⟩⟩

end Sys2Proof.Machine
end

section
/-! SUPPORT. Whole operations: an operation in progress, move by move, and the whole I2C operations. -/

namespace Sys2Proof.Machine

/-! ## An operation in progress -/

/-- A state without the sequencing and result registers, the frame buffer and what the devices hold. -/
def progressOf (v : State) : State :=
  engineView { v with
    resStatus := 0, resData := 0, resBusy := false, resRetries := 0, resDone := false
    phase := 0, polling := false, retry := 0, busyLast := false, fb := [], draws := 0 }

/-- An operation accepted in `b` has made these calls, and has these moves and answers still to come. -/
def InProgress (b : State) (calls : List Call) (inputs : List Input) (replies : List Reply) (v : State) : Prop :=
  progressOf v = progressOf { b with trace := b.trace ++ calls, inputs := inputs, replies := replies }

/-- The state in which a command has been accepted from the host. -/
def accepted (op : BitVec 2) (dev : BitVec 7) (loc : BitVec 11) (addr : BitVec 8) (data : DataWord)
    (s : State) : State :=
  accept op dev loc addr data (turnStart s)

section

variable {b s u v : State} {calls : List Call} {moves : List Input} {answers : List Reply}

theorem InProgress.operands (h : InProgress b calls moves answers v) :
    v.argOp = b.argOp ∧ v.argDev = b.argDev ∧ v.argLoc = b.argLoc ∧ v.argAddr = b.argAddr ∧
    v.argData = b.argData := by
  exact ⟨(congrArg State.argOp h :), (congrArg State.argDev h :), (congrArg State.argLoc h :),
    (congrArg State.argAddr h :), (congrArg State.argData h :)⟩

theorem InProgress.argOp (h : InProgress b calls moves answers v) : v.argOp = b.argOp :=
  (congrArg State.argOp h :)

theorem InProgress.engine (h : InProgress b calls moves answers v) : v.engine = b.engine :=
  (congrArg State.engine h :)

theorem InProgress.params (h : InProgress b calls moves answers v) : v.params = b.params :=
  (congrArg State.params h :)

theorem InProgress.trace (h : InProgress b calls moves answers v) : v.trace = b.trace ++ calls :=
  (congrArg State.trace h :)

theorem InProgress.inputs (h : InProgress b calls moves answers v) : v.inputs = moves :=
  (congrArg State.inputs h :)

theorem InProgress.replies (h : InProgress b calls moves answers v) : v.replies = answers :=
  (congrArg State.replies h :)

theorem InProgress.handles (h : InProgress b calls moves answers v) :
    v.i2cChValid = b.i2cChValid ∧ v.spiChValid = b.spiChValid :=
  ⟨(congrArg State.i2cChValid h :), (congrArg State.spiChValid h :)⟩

theorem InProgress.slave (h : InProgress b calls moves answers v) : v.slave = b.slave :=
  (congrArg State.slave h :)

theorem InProgress.reg (h : InProgress b calls moves answers v) : v.reg = b.reg :=
  (congrArg State.reg h :)

/-- The engine's turn is used up. -/
theorem InProgress.turn {move : Input} (h : InProgress b calls (move :: moves) answers v) :
    InProgress b calls moves answers (turnStart v) :=
  (congrArg (fun w : State => { w with inputs := w.inputs.tail }) h :)

theorem progressOf_answeredCall (k : BitVec 4) (r : Request) (v : State) :
    progressOf (answeredCall k r v) =
      { progressOf v with trace := v.trace ++ [recordOf r (nextReply v)], replies := v.replies.tail } := by
  simp [progressOf, engineView]

theorem InProgress.nextReply_eq {a : Reply} (h : InProgress b calls moves (a :: answers) v) : nextReply v = a :=
  nextReply_cons v a answers h.replies

/-- A call has been made. -/
theorem InProgress.call {a : Reply} (h : InProgress b calls moves (a :: answers) v) (k : BitVec 4)
    (r : Request) : InProgress b (calls ++ [recordOf r a]) moves answers (answeredCall k r v) := by
  have hcall := progressOf_answeredCall k r v
  rw [h.nextReply_eq, h.trace, h.replies, List.append_assoc] at hcall
  exact hcall.trans (congrArg (fun w : State =>
    { w with trace := b.trace ++ (calls ++ [recordOf r a]), replies := answers }) h)

/-- A command written to an idle engine with the handle valid is accepted. -/
theorem inProgress_accepted {move : Input} (op : BitVec 2) (dev : BitVec 7) (loc : BitVec 11) (addr : BitVec 8)
    (data : DataWord) (hin : s.inputs = move :: moves) :
    InProgress (accepted op dev loc addr data s) [] moves s.replies (accepted op dev loc addr data s) := by
  have htail : (turnStart s).inputs = moves := by rw [turnStart, hin]; rfl
  unfold InProgress
  rw [List.append_nil, ← htail]
  rfl

theorem step_accepts {w : CommandWord} {i : Instr} {bus : Bus} {op : BitVec 2} {dev : BitVec 7} {loc : BitVec 11}
    {addr : BitVec 8} {data : DataWord} (hin : s.inputs = .cmd w :: moves) (hidle : s.engine = .idle)
    (hdec : decode (.command w) = .ok i) (hexec : ∀ s, exec i s = .next (start bus op dev loc addr data s))
    (hhandle : handleOf bus s = true) : step s = .next (accepted op dev loc addr data s) := by
  rw [step_of_legal_command hin hidle hdec, hexec, ← turnStart_of_cons hin, start_of_handle (s := turnStart s) hhandle]
  rfl

/-- On its turn the engine runs the phase at `PHASE`. -/
theorem step_phase {i : Instr} (hin : v.inputs = .engine :: moves) (hrun : v.engine = .running)
    (hseq : sequence v = .word (encode i)) : step v = exec i (turnStart v) := by
  rw [step_of_engine hin, hseq, ← turnStart_of_cons hin, outcomeOf_engineTurn_encode (s := turnStart v) i hrun]

theorem step_of_run_succ {m : Nat} {t : State} (h : Sys2Proof.core.run (m + 1) s = .next t) :
    ∃ u, step s = .next u := by
  have hcore : Sys2Proof.core.step s = step s := rfl
  cases hstep : step s with
  | next u => exact ⟨u, rfl⟩
  | fault e | refused e => simp [Host.Core.run, hcore, hstep] at h

/-- Runs in a row. -/
theorem run_add_of_next {m : Nat} {t : State} (h : Sys2Proof.core.run m s = .next t) (n : Nat) :
    Sys2Proof.core.run (m + n) s = Sys2Proof.core.run n t := by
  induction m generalizing s with
  | zero =>
    cases h
    rw [Nat.zero_add]
  | succ m ih =>
    obtain ⟨u, hstep⟩ := step_of_run_succ h
    rw [Nat.add_right_comm, run_succ_of_step hstep]
    rw [run_succ_of_step hstep] at h
    exact ih h

theorem run_one_of_step {t : State} (h : step s = .next t) : Sys2Proof.core.run 1 s = .next t :=
  (run_succ_of_step h 0).trans rfl

end

/-! ## I2C_WRITE_BYTE -/

/-- An I2C write accepted in `b` has made `n` polls: what the engine holds, and the device that is writing. -/
structure Polling (b : State) (n : Nat) (cell : Nat) (data : Byte) (calls : List Call) (moves : List Input)
    (answers : List Reply) (v : State) : Prop where
  progress : InProgress b calls moves answers v
  phase : v.phase = 2
  retry : v.retry.toNat = n
  pending : v.i2cPending = some (cell, data)
  others : ∀ addr, addr ≠ cell → readCell v.i2cMem addr = readCell b.i2cMem addr
  spi : SameSpi b v

/-- A poll has been answered, and is counted. -/
def polled (slave : BitVec 7) (reg : Byte) (s : State) : State :=
  let t := answeredCall 2 (.i2cPoll slave reg) s
  { t with retry := t.retry + 1 }

theorem polled_i2cLine_of_succeeds {s : State} {slave : BitVec 7} {reg : Byte} (hwf : s.params.wf = true)
    (h : Succeeds s (.i2cPoll slave reg)) :
    (polled slave reg s).i2cLine = { opened := true, cycle := s.i2cLine.cycle } :=
  congrArg State.i2cLine (answeredCall_of_succeeds_i2c 2 h rfl (smallRequest_i2cPoll slave reg) hwf)

theorem polled_i2cLine_of_fails {s : State} {slave : BitVec 7} {reg : Byte} {e : Status}
    (hwf : s.params.wf = true) (h : FailsWith s (.i2cPoll slave reg) e) :
    (polled slave reg s).i2cLine = (nextReply s).i2cAfter :=
  congrArg State.i2cLine (answeredCall_of_fails_i2c 2 h rfl (smallRequest_i2cPoll slave reg) hwf)

theorem polled_retry (slave : BitVec 7) (reg : Byte) (s : State) :
    (polled slave reg s).retry = s.retry + 1 := by
  simp [polled]

section

variable {b s v : State} {n cell : Nat} {data : Byte} {calls : List Call} {moves : List Input}
  {answers : List Reply} {a : Reply}

/-- A successful primary write, to a location in range, begins the polls. -/
theorem exists_polling_of_primary (hop : b.argOp = 0) (hrun : b.engine = .running)
    (hrange : locationInRange b = true) (hphase : b.phase = 0) (hdata : wordLow b.argData = data)
    (hb : InProgress b [] (.engine :: moves) (a :: answers) b) (hreturns : a.returns = true)
    (hstatus : replyStatus (.i2cPrimary b.slave b.reg data) a = .ok) :
    ∃ u, step b = .next u ∧ Polling b 0 (i2cCell b.slave b.reg) data
      [recordOf (.i2cPrimary b.slave b.reg data) a] moves answers u := by
  subst hdata
  have hreply : nextReply (turnStart b) = a := hb.turn.nextReply_eq
  have hok : Succeeds (turnStart b) (.i2cPrimary b.slave b.reg (wordLow b.argData)) :=
    ⟨hreply ▸ hreturns, hreply ▸ hstatus⟩
  have hrange' : locationInRange
      (answeredCall 1 (.i2cPrimary b.slave b.reg (wordLow b.argData)) (turnStart b)) = true :=
    (locationInRange_answeredCall ..).trans hrange
  have hstep := (step_phase hb.inputs hrun (sequence_i2cWrite hop (.inl hphase))).trans
    (execI2cPrimary_eq_flow _ _ _ _)
  rw [primaryFlow, callThen_of_succeeds hok, primaryAnswered_ok, latchI2c_ok hrange'] at hstep
  refine ⟨_, hstep, hb.turn.call 1 _, rfl, rfl, rfl, fun addr haddr => ?_, ?_⟩
  · refine (readCell_writeCell_other _ _ _ _ haddr).trans ?_
    rw [answeredCall_i2cMem]
    rfl
  · exact sameSpi_answeredCall 1 rfl (turnStart b)

/-- The engine's turn while it polls: the answer, and what the engine makes of it. -/
theorem Polling.step_eq
    (h : Polling b n cell data calls (.engine :: moves) (a :: answers) v)
    (hop : b.argOp = 0) (hrun : b.engine = .running) (hreturns : a.returns = true) :
    step v = flowOutcome (pollAnswered (replyStatus (.i2cPoll b.slave b.reg) a)
      (answeredCall 2 (.i2cPoll b.slave b.reg) (turnStart v))) := by
  have hreply : nextReply (turnStart v) = a := h.progress.turn.nextReply_eq
  have hstep := (step_phase h.progress.inputs (h.progress.engine.trans hrun)
    (sequence_i2cPoll (h.progress.argOp.trans hop) h.phase)).trans (execI2cPoll_eq_flow _ _ _)
  rw [h.progress.slave, h.progress.reg, pollFlow,
    callThen_of_status (e := replyStatus (.i2cPoll b.slave b.reg) a) (hreply ▸ hreturns) (by rw [hreply])] at hstep
  exact hstep

/-- What a poll that has been answered leaves. -/
theorem Polling.answered
    (h : Polling b n cell data calls (.engine :: moves) (a :: answers) v)
    (hwf : b.params.wf = true) (hn : n < b.params.i2cRetryBudget) :
    Polling b (n + 1) cell data (calls ++ [recordOf (.i2cPoll b.slave b.reg) a]) moves answers
      (polled b.slave b.reg (turnStart v)) where
  progress := h.progress.turn.call 2 _
  phase := answeredCall_phase ..
  retry := by
    obtain ⟨⟨-, hle⟩, -⟩ := (params_wf_iff _).1 hwf
    rw [← h.retry] at hn ⊢
    exact (congrArg BitVec.toNat (polled_retry ..)).trans (toNat_retry_succ hn hle)
  pending := (answeredCall_i2cPending ..).trans h.pending
  others addr haddr := (congrArg (readCell · addr) (answeredCall_i2cMem ..)).trans (h.others addr haddr)
  spi := h.spi.trans (sameSpi_answeredCall 2 rfl (turnStart v))

/-- A failed poll below the budget. -/
theorem Polling.step_of_fails
    (h : Polling b n cell data calls (.engine :: moves) (a :: answers) v)
    (hop : b.argOp = 0) (hrun : b.engine = .running) (hwf : b.params.wf = true)
    (hn : n + 1 < b.params.i2cRetryBudget) (hreturns : a.returns = true)
    (hstatus : replyStatus (.i2cPoll b.slave b.reg) a ≠ .ok) :
    ∃ u, step v = .next u ∧
      Polling b (n + 1) cell data (calls ++ [recordOf (.i2cPoll b.slave b.reg) a]) moves answers u := by
  have hpoll := h.answered hwf (Nat.lt_of_succ_lt hn)
  have hmore : (polled b.slave b.reg (turnStart v)).retry.toNat ≠
      (polled b.slave b.reg (turnStart v)).params.i2cRetryBudget := by
    rw [hpoll.retry, hpoll.progress.params]
    omega
  refine ⟨_, (h.step_eq hop hrun hreturns).trans ?_, hpoll⟩
  rw [pollAnswered, if_neg hstatus]
  exact congrArg flowOutcome (if_neg hmore)

/-- The last poll that the budget allows, failed. -/
theorem Polling.step_of_exhausted
    (h : Polling b n cell data calls (.engine :: moves) (a :: answers) v)
    (hop : b.argOp = 0) (hrun : b.engine = .running) (hwf : b.params.wf = true)
    (hn : n + 1 = b.params.i2cRetryBudget) (hreturns : a.returns = true)
    (hstatus : replyStatus (.i2cPoll b.slave b.reg) a ≠ .ok) :
    step v = .next (finish (replyStatus (.i2cPoll b.slave b.reg) a) 0 false
      (polled b.slave b.reg (turnStart v)).retry (polled b.slave b.reg (turnStart v))) := by
  have hpoll := h.answered hwf (Nat.lt_of_succ_le hn.le)
  have hlast : (polled b.slave b.reg (turnStart v)).retry.toNat =
      (polled b.slave b.reg (turnStart v)).params.i2cRetryBudget := by
    rw [hpoll.retry, hpoll.progress.params, hn]
  refine (h.step_eq hop hrun hreturns).trans ?_
  rw [pollAnswered, if_neg hstatus]
  exact congrArg flowOutcome (if_pos hlast)

/-- A poll that is acknowledged. -/
theorem Polling.step_of_ok
    (h : Polling b n cell data calls (.engine :: moves) (a :: answers) v)
    (hop : b.argOp = 0) (hrun : b.engine = .running) (hreturns : a.returns = true)
    (hstatus : replyStatus (.i2cPoll b.slave b.reg) a = .ok) :
    step v = .next (finish .ok 0 false (polled b.slave b.reg (turnStart v)).retry
      (confirmI2c (polled b.slave b.reg (turnStart v)))) := by
  refine (h.step_eq hop hrun hreturns).trans ?_
  rw [hstatus, pollAnswered, if_pos rfl]
  rfl

/-- A row of failed polls below the budget. -/
theorem Polling.run_of_fails (fails : List Reply)
    (h : Polling b n cell data calls (List.replicate fails.length .engine ++ moves) (fails ++ answers) v)
    (hop : b.argOp = 0) (hrun : b.engine = .running) (hwf : b.params.wf = true)
    (hn : n + fails.length < b.params.i2cRetryBudget)
    (hfails : ∀ a ∈ fails, a.returns = true ∧ replyStatus (.i2cPoll b.slave b.reg) a ≠ .ok) :
    ∃ u, Sys2Proof.core.run fails.length v = .next u ∧ Polling b (n + fails.length) cell data
      (calls ++ fails.map (recordOf (.i2cPoll b.slave b.reg))) moves answers u := by
  induction fails generalizing n calls v with
  | nil => exact ⟨v, rfl, by simpa using h⟩
  | cons a fails ih =>
    obtain ⟨⟨hreturns, hstatus⟩, hfails⟩ := List.forall_mem_cons.1 hfails
    rw [List.length_cons] at hn
    obtain ⟨u, hstep, hu⟩ := h.step_of_fails hop hrun hwf (by omega) hreturns hstatus
    obtain ⟨w, hrunw, hw⟩ := ih hu (by omega) hfails
    refine ⟨w, (run_succ_of_step hstep _).trans hrunw, ?_⟩
    rwa [List.append_assoc, Nat.add_right_comm, Nat.add_assoc] at hw

end

/-! ### The whole operation -/

theorem replicate_add_two_append {α : Type} (n : Nat) (x : α) (l : List α) :
    List.replicate (n + 2) x ++ l = x :: (List.replicate n x ++ x :: l) := by
  rw [List.replicate_succ, List.replicate_succ', List.cons_append, List.append_assoc, List.singleton_append]

section

variable {s : State} {dev : BitVec 7} {loc : BitVec 11} {data : Byte} {p last : Reply} {fails rest : List Reply}
  {later : List Input}

/-- An I2C write up to its last poll: a good primary write, and failed polls below the budget. -/
theorem exists_run_to_last_poll (hwf : s.params.wf = true)
    (hi : Instr.wf s.params (.i2cWriteByte dev loc data) = true) (hidle : s.engine = .idle)
    (hhandle : s.i2cChValid = true)
    (hin : s.inputs = .cmd (commandI 0 dev loc data) :: List.replicate (fails.length + 2) .engine ++ later)
    (hreplies : s.replies = p :: fails ++ last :: rest) (hbudget : fails.length < s.params.i2cRetryBudget)
    (hreturns : p.returns = true)
    (hstatus : replyStatus (.i2cPrimary (slaveOf dev loc) (regOf loc) data) p = .ok)
    (hfails : ∀ a ∈ fails, a.returns = true ∧
      replyStatus (.i2cPoll (slaveOf dev loc) (regOf loc)) a ≠ .ok) :
    ∃ u, Sys2Proof.core.run (fails.length + 2) s = .next u ∧
      Polling (accepted 0 dev loc 0 (data.setWidth 16) s) fails.length (i2cCell (slaveOf dev loc) (regOf loc)) data
        (recordOf (.i2cPrimary (slaveOf dev loc) (regOf loc) data) p ::
          fails.map (recordOf (.i2cPoll (slaveOf dev loc) (regOf loc)))) (.engine :: later) (last :: rest) u := by
  have hdata : wordLow (data.setWidth 16) = data := by simp [wordLow]
  rw [List.cons_append, replicate_add_two_append] at hin
  have hstart := step_accepts (bus := .i2c) hin hidle (decodeCommand_encode_i2cWriteByte dev loc data)
    (fun _ => rfl) hhandle
  have hb := inProgress_accepted 0 dev loc 0 (data.setWidth 16) hin
  rw [hreplies] at hb
  obtain ⟨v, hprimary, hv⟩ := exists_polling_of_primary (b := accepted 0 dev loc 0 (data.setWidth 16) s)
    rfl rfl hi rfl hdata hb hreturns hstatus
  obtain ⟨u, hpolls, hu⟩ := hv.run_of_fails fails rfl rfl hwf ((Nat.zero_add _).trans_lt hbudget) hfails
  rw [Nat.zero_add] at hu
  exact ⟨u, (run_succ_of_step hstart _).trans ((run_succ_of_step hprimary _).trans hpolls), hu⟩

end

theorem i2cCell_ne {slave slave' : BitVec 7} {reg reg' : Byte} (h : slave ≠ slave' ∨ reg ≠ reg') :
    i2cCell slave reg ≠ i2cCell slave' reg' := fun hcell =>
  have ⟨hslave, hreg⟩ := i2cCell_injective hcell
  h.elim (absurd hslave) (absurd hreg)

/-- Settles O43: the failed polls below the budget, then the one that confirms the cell. -/
theorem i2cWriteEndsAtTheFirstAcknowledgedPoll : Obligations.I2cWriteEndsAtTheFirstAcknowledgedPoll := by
  intro s dev loc data p fails good rest later hwf hi hidle hhandle hin hreplies hbudget hreturns hstatus hfails
    hgood hgoodStatus
  obtain ⟨v, hrun, hv⟩ := exists_run_to_last_poll hwf hi hidle hhandle hin hreplies hbudget hreturns hstatus hfails
  have hlast := hv.step_of_ok rfl rfl hgood hgoodStatus
  have hpoll := hv.answered hwf hbudget
  have hprogress := hpoll.progress
  obtain ⟨hop, hdev, hloc, haddr, hdata⟩ := hprogress.operands
  obtain ⟨hi2c, hspi⟩ := hprogress.handles
  have hmem := confirmI2c_i2cMem_of_some hpoll.pending
  have hreply : nextReply (turnStart v) = good := hv.progress.turn.nextReply_eq
  have hline := polled_i2cLine_of_succeeds (s := turnStart v) (slave := slaveOf dev loc) (reg := regOf loc)
    (by rw [hv.progress.turn.params]; exact hwf) ⟨hreply ▸ hgood, hreply ▸ hgoodStatus⟩
  refine ⟨_, (run_add_of_next hrun 1).trans (run_one_of_step hlast), rfl, rfl, rfl, rfl, rfl, hpoll.retry, hop, hdev,
    hloc, hdata.trans (setWidth_eq_zero_append data), haddr, ?_, hprogress.replies, hprogress.inputs,
    hprogress.params, hi2c.trans hhandle, hspi, hpoll.spi, ?_, rfl, ?_, fun slave reg hother => ?_⟩
  · rw [List.map_append]
    exact hprogress.trace
  · exact congrArg (fun l : I2cLine => { l with cycle := false }) hline
  · exact (congrArg (readCell · (i2cCell (slaveOf dev loc) (regOf loc))) hmem).trans (readCell_writeCell_same ..)
  · have hcell := i2cCell_ne hother
    exact ((congrArg (readCell · (i2cCell slave reg)) hmem).trans (readCell_writeCell_other _ _ _ _ hcell)).trans
      (hpoll.others _ hcell)

/-- Settles O44: the failed polls up to the budget. -/
theorem i2cWriteExhaustsItsBudget : Obligations.I2cWriteExhaustsItsBudget := by
  intro s dev loc data p fails last rest later hwf hi hidle hhandle hin hreplies hbudget hreturns hstatus hfails
  obtain ⟨hfails, hlast⟩ := List.forall_mem_append.1 hfails
  obtain ⟨hlastReturns, hlastStatus⟩ := List.forall_mem_singleton.1 hlast
  have hbelow : fails.length < s.params.i2cRetryBudget := Nat.lt_of_succ_le hbudget.le
  obtain ⟨v, hrun, hv⟩ := exists_run_to_last_poll hwf hi hidle hhandle hin hreplies hbelow hreturns hstatus hfails
  have hend := hv.step_of_exhausted rfl rfl hwf hbudget hlastReturns hlastStatus
  have hpoll := hv.answered hwf hbelow
  have hprogress := hpoll.progress
  have hreply : nextReply (turnStart v) = last := hv.progress.turn.nextReply_eq
  have hline := polled_i2cLine_of_fails (s := turnStart v) (slave := slaveOf dev loc) (reg := regOf loc)
    (by rw [hv.progress.turn.params]; exact hwf) ⟨hreply ▸ hlastReturns, rfl, hreply ▸ hlastStatus⟩
  refine ⟨_, (run_add_of_next hrun 1).trans (run_one_of_step hend), rfl, rfl, rfl, rfl, rfl,
    hpoll.retry.trans hbudget, ?_, hprogress.replies, hprogress.inputs, hpoll.spi, hline.trans (by rw [hreply]),
    fun slave reg hother => hpoll.others _ (i2cCell_ne hother)⟩
  rw [List.map_append]
  exact hprogress.trace

/-! ## I2C_READ_BYTE -/

theorem exec_i2cRead_of_succeeds {s : State} {slave : BitVec 7} (hwf : s.params.wf = true)
    (h : Succeeds s (.i2cRead slave)) : exec (.i2cRead slave) s =
      .next (finish .ok (0#8 ++ replyByte s 0) false 0 (answeredCall 2 (.i2cRead slave) s)) := by
  have hbyte := fbByte_answeredCall_read (s := s) 2 rfl (smallRequest_i2cRead slave) hwf (n := 0) Nat.one_pos
  have hexec : exec (.i2cRead slave) s = flowOutcome (i2cReadFlow slave s) := execI2cRead_eq_flow slave s
  rw [hexec, i2cReadFlow, callThen_of_succeeds h, if_pos rfl, hbyte, setWidth_eq_zero_append]
  rfl

theorem InProgress.succeeds {b v : State} {calls : List Call} {moves : List Input} {answers : List Reply}
    {a : Reply} {r : Request} (h : InProgress b calls moves (a :: answers) v) (hreturns : a.returns = true)
    (hstatus : replyStatus r a = .ok) : Succeeds v r :=
  have hreply := h.nextReply_eq
  ⟨hreply ▸ hreturns, hreply ▸ hstatus⟩

/-- The engine's turn at a phase that goes on by one, where its call succeeds. -/
theorem InProgress.step_of_succeeds {b v : State} {calls : List Call} {moves : List Input} {answers : List Reply}
    {a : Reply} {i : Instr} {k : BitVec 4} {r : Request} {fail : Status → State → State}
    (h : InProgress b calls (.engine :: moves) (a :: answers) v) (hrun : b.engine = .running)
    (hseq : sequence v = .word (encode i)) (hexec : ∀ s, exec i s = flowOutcome (phaseStep k r fail s))
    (hreturns : a.returns = true) (hstatus : replyStatus r a = .ok) :
    step v = .next (passedState k r (turnStart v)) ∧
      InProgress b (calls ++ [recordOf r a]) moves answers (passedState k r (turnStart v)) := by
  refine ⟨?_, h.turn.call k r⟩
  rw [step_phase h.inputs (h.engine.trans hrun) hseq, hexec]
  exact congrArg flowOutcome (phaseStep_of_succeeds' (h.turn.succeeds hreturns hstatus))

/-- The set-up of a read, where its call succeeds. -/
theorem InProgress.step_of_i2cSetup {b v : State} {calls : List Call} {moves : List Input} {answers : List Reply}
    {a : Reply} (h : InProgress b calls (.engine :: moves) (a :: answers) v) (hrun : b.engine = .running)
    (hop : b.argOp = 1) (hphase : v.phase = 0) (hreturns : a.returns = true)
    (hstatus : replyStatus (.i2cSetup b.slave b.reg) a = .ok) :
    ∃ w, step v = .next w ∧ InProgress b (calls ++ [recordOf (.i2cSetup b.slave b.reg) a]) moves answers w ∧
      w.phase = 2 ∧ w.i2cMem = v.i2cMem ∧ SameSpi v w := by
  have hseq := sequence_i2cSetup (h.argOp.trans hop) (.inl hphase)
  rw [h.slave, h.reg] at hseq
  obtain ⟨hstep, hnext⟩ := h.step_of_succeeds hrun hseq (fun _ => rfl) hreturns hstatus
  exact ⟨_, hstep, hnext, rfl, answeredCall_i2cMem .., sameSpi_answeredCall 1 rfl (turnStart v)⟩

/-- The read phase, where its call succeeds and delivers a byte. -/
theorem InProgress.step_of_i2cRead {b v : State} {calls : List Call} {moves : List Input} {answers : List Reply}
    {a : Reply} {x : Byte} (h : InProgress b calls (.engine :: moves) (a :: answers) v)
    (hrun : b.engine = .running) (hwf : b.params.wf = true) (hop : b.argOp = 1) (hphase : v.phase = 2)
    (hreturns : a.returns = true) (hstatus : replyStatus (.i2cRead b.slave) a = .ok) (hbytes : a.bytes = [x]) :
    ∃ w, step v = .next (finish .ok (0#8 ++ x) false 0 w) ∧
      InProgress b (calls ++ [recordOf (.i2cRead b.slave) a]) moves answers w ∧
      w.i2cLine.opened = true ∧ w.i2cMem = v.i2cMem ∧ SameSpi v w := by
  have hseq := sequence_i2cRead (h.argOp.trans hop) hphase
  rw [h.slave] at hseq
  have hwf' : (turnStart v).params.wf = true := by
    rw [h.turn.params]
    exact hwf
  have hok := h.turn.succeeds hreturns hstatus
  have hbyte : replyByte (turnStart v) 0 = x := by
    rw [replyByte, h.turn.nextReply_eq, hbytes]
    rfl
  have hstep := (step_phase h.inputs (h.engine.trans hrun) hseq).trans (exec_i2cRead_of_succeeds hwf' hok)
  rw [hbyte] at hstep
  refine ⟨_, hstep, h.turn.call 2 _, ?_, answeredCall_i2cMem .., sameSpi_answeredCall 2 rfl (turnStart v)⟩
  rw [answeredCall_of_succeeds_i2c 2 hok rfl (smallRequest_i2cRead b.slave) hwf']
  rfl

/-- Settles O45: the command, the set-up, the read. -/
theorem i2cReadReturnsTheByte : Obligations.I2cReadReturnsTheByte := by
  intro s dev loc a b x rest later hwf hi hidle hhandle hin hreplies hbytes hsetup hsetupStatus hread hreadStatus
  have hstart := step_accepts (bus := .i2c) hin hidle (decodeCommand_encode_i2cReadByte dev loc)
    (fun _ => rfl) hhandle
  have h0 := inProgress_accepted 1 dev loc 0 0 hin
  rw [hreplies] at h0
  obtain ⟨v, hstep, h1, hphase, hmem, hspi⟩ := h0.step_of_i2cSetup rfl rfl rfl hsetup hsetupStatus
  obtain ⟨w, hend, h2, hopen, hmem', hspi'⟩ := h1.step_of_i2cRead rfl hwf rfl hphase hread hreadStatus hbytes
  have hrun : Sys2Proof.core.run 3 s = .next (finish .ok (0#8 ++ x) false 0 w) :=
    (run_succ_of_step hstart 2).trans ((run_succ_of_step hstep 1).trans (run_one_of_step hend))
  exact ⟨_, hrun, rfl, rfl, rfl, rfl, rfl, rfl, rfl, h2.trace, h2.replies, h2.inputs, hopen, hmem'.trans hmem,
    hspi.trans hspi'⟩

/-- Settles O48: the read finds the byte that the acknowledged poll committed. -/
theorem i2cRoundTrip : Obligations.I2cRoundTrip := by
  intro s dev loc d x p good a b fails rest later hwf hwrite hread hidle hhandle hin hreplies hbudget hp hpStatus
    hfails hgood hgoodStatus ha haStatus hb hbStatus hbytes hdevice
  obtain ⟨u, hrun, hidle', -, hstatus, -, -, hretries, -, -, -, -, -, -, hreplies', hin', hparams, hhandle', -, -, -,
    -, hcell, -⟩ := i2cWriteEndsAtTheFirstAcknowledgedPoll s dev loc d p fails good (a :: b :: rest)
      (.cmd (commandI 1 dev loc 0) :: .engine :: .engine :: later) hwf hwrite hidle hhandle hin hreplies hbudget hp
      hpStatus hfails hgood hgoodStatus
  have hx : d = x := Option.some.inj (hcell.symm.trans (hdevice u hrun))
  subst hx
  obtain ⟨t, hrun', -, hdone, hok, -, hdata, -⟩ := i2cReadReturnsTheByte u dev loc a b d rest later (hparams ▸ hwf)
    (hparams ▸ hread) hidle' hhandle' hin' hreplies' hbytes ha haStatus hb hbStatus
  exact ⟨⟨u, hrun, hstatus, hretries⟩, t, (run_add_of_next hrun 3).trans hrun', hdone, hok, hdata⟩

end Sys2Proof.Machine
end

section
/-! SUPPORT. The whole SPI operations: the engine's registers move by move, and the device beside them. -/

namespace Sys2Proof.Machine

/-! ## An SPI operation in progress -/

/-- `PHASE`, whether it polls, `RETRY` and the last busy value (10_state section 4). -/
def registersOf (v : State) : BitVec 4 × Bool × BitVec 8 × Bool :=
  (v.phase, v.polling, v.retry, v.busyLast)

/-- An SPI operation accepted in `b` has made these calls, and its registers are at `regs`. -/
structure SpiAt (b : State) (regs : BitVec 4 × Bool × BitVec 8 × Bool) (calls : List Call)
    (moves : List Input) (answers : List Reply) (v : State) : Prop where
  progress : InProgress b calls moves answers v
  registers : registersOf v = regs
  i2c : SameI2c b v

/-- From `v` the engine made the call `r`, which succeeded: the SPI side is as the call left it. -/
def SpiCalled (r : Request) (v u : State) : Prop :=
  ∃ k, Succeeds (turnStart v) r ∧ SameSpi (answeredCall k r (turnStart v)) u

section

variable {b v : State} {k p : BitVec 4} {poll seen : Bool} {n : BitVec 8}
  {regs : BitVec 4 × Bool × BitVec 8 × Bool} {calls : List Call} {moves : List Input} {answers : List Reply}
  {a : Reply} {i : Instr} {r : Request} {fail : Status → State → State}

theorem SpiAt.phase (h : SpiAt b (p, poll, n, seen) calls moves answers v) : v.phase = p :=
  congrArg Prod.fst h.registers

theorem SpiAt.polling (h : SpiAt b (p, poll, n, seen) calls moves answers v) : v.polling = poll :=
  congrArg (·.2.1) h.registers

theorem SpiAt.retry (h : SpiAt b (p, poll, n, seen) calls moves answers v) : v.retry = n :=
  congrArg (·.2.2.1) h.registers

theorem SpiAt.busyLast (h : SpiAt b (p, poll, n, seen) calls moves answers v) :
    v.busyLast = seen :=
  congrArg (·.2.2.2) h.registers

theorem SpiAt.operands (h : SpiAt b regs calls moves answers v) :
    v.argOp = b.argOp ∧ v.argAddr = b.argAddr ∧ v.argData = b.argData ∧ v.params = b.params := by
  obtain ⟨hop, -, -, haddr, hdata⟩ := h.progress.operands
  exact ⟨hop, haddr, hdata, h.progress.params⟩

/-- A call leaves the registers but `PHASE`. -/
theorem SpiAt.call (h : SpiAt b (p, poll, n, seen) calls (.engine :: moves) (a :: answers) v)
    (k : BitVec 4) (ht : r.target = .spi) :
    SpiAt b (k, poll, n, seen) (calls ++ [recordOf r a]) moves answers
      (answeredCall k r (turnStart v)) where
  progress := h.progress.turn.call k r
  registers := by
    have hregs := h.registers
    simp_all [registersOf, turnStart]
  i2c := h.i2c.trans (sameI2c_answeredCall k ht (turnStart v))

/-- The engine's turn at a phase that goes on by one, where its call succeeds. -/
theorem SpiAt.step_of_succeeds
    (h : SpiAt b (p, poll, n, seen) calls (.engine :: moves) (a :: answers) v)
    (hrun : b.engine = .running) (hseq : sequence v = .word (encode i))
    (hexec : ∀ s, exec i s = flowOutcome (phaseStep k r fail s)) (ht : r.target = .spi)
    (hreturns : a.returns = true) (hstatus : replyStatus r a = .ok) :
    ∃ u, step v = .next u ∧
      SpiAt b (k + 1, poll, n, seen) (calls ++ [recordOf r a]) moves answers u ∧ SpiCalled r v u := by
  obtain ⟨hstep, hprogress⟩ := h.progress.step_of_succeeds hrun hseq hexec hreturns hstatus
  obtain ⟨-, hregs, hi2c⟩ := h.call k ht
  exact ⟨_, hstep, ⟨hprogress, congrArg (fun q : BitVec 4 × _ => (k + 1, q.2)) hregs, hi2c⟩, k,
    h.progress.turn.succeeds hreturns hstatus, rfl, rfl, rfl, rfl⟩

end

/-- An SPI command written to an idle engine with the handle valid is accepted. -/
theorem spiAt_accepted {s : State} {move : Input} {moves : List Input} (op : BitVec 2) (addr : BitVec 8)
    (data : DataWord) (hin : s.inputs = move :: moves) :
    SpiAt (accepted op 0 0 addr data s) (0, false, 0, false) [] moves s.replies (accepted op 0 0 addr data s) :=
  ⟨inProgress_accepted op 0 0 addr data hin, rfl, rfl, rfl, rfl⟩

/-! ## SPI_READ_WORD -/

section

variable {b v u w x : State} {n : BitVec 8} {seen : Bool} {calls : List Call} {moves : List Input}
  {answers : List Reply} {a : Reply}

/-- The opcode of a read. -/
theorem SpiAt.step_of_spiRdOp (h : SpiAt b (0, false, n, seen) calls (.engine :: moves) (a :: answers) v)
    (hrun : b.engine = .running) (hop : b.argOp = 3) {hi : BitVec 5}
    (hhi : hi = readHigh b.params.addrPacking b.argAddr) (hreturns : a.returns = true)
    (hstatus : replyStatus (.spiRdOp hi) a = .ok) :
    ∃ u, step v = .next u ∧
      SpiAt b (2, false, n, seen) (calls ++ [recordOf (.spiRdOp hi) a]) moves answers u ∧
      SpiCalled (.spiRdOp hi) v u := by
  obtain ⟨hop', haddr, -, hparams⟩ := h.operands
  have hseq := sequence_spiRdOp (hop'.trans hop) (.inl h.phase)
  rw [haddr, hparams, ← hhi] at hseq
  exact h.step_of_succeeds hrun hseq (fun _ => rfl) rfl hreturns hstatus

/-- The rest of the address. -/
theorem SpiAt.step_of_spiRdLo (h : SpiAt b (2, false, n, seen) calls (.engine :: moves) (a :: answers) v)
    (hrun : b.engine = .running) (hop : b.argOp = 3) {lo : BitVec 3}
    (hlo : lo = readLow b.params.addrPacking b.argAddr) (hreturns : a.returns = true)
    (hstatus : replyStatus (.spiRdLo lo) a = .ok) :
    ∃ u, step v = .next u ∧
      SpiAt b (3, false, n, seen) (calls ++ [recordOf (.spiRdLo lo) a]) moves answers u ∧
      SpiCalled (.spiRdLo lo) v u := by
  obtain ⟨hop', haddr, -, hparams⟩ := h.operands
  have hseq := sequence_spiRdLo (hop'.trans hop) h.phase
  rw [haddr, hparams, ← hlo] at hseq
  exact h.step_of_succeeds hrun hseq (fun _ => rfl) rfl hreturns hstatus

/-- The data phase of a read ends the operation with the word received. -/
theorem SpiAt.step_of_spiRdData (h : SpiAt b (3, false, n, seen) calls (.engine :: moves) (a :: answers) v)
    (hrun : b.engine = .running) (hwf : b.params.wf = true) (hop : b.argOp = 3) {x y : Byte}
    (hbytes : a.bytes = [x, y]) (hreturns : a.returns = true) (hstatus : replyStatus .spiRdData a = .ok) :
    ∃ u, step v = .next (finish .ok (y ++ x) false 0 u) ∧
      SpiAt b (3, false, n, seen) (calls ++ [recordOf .spiRdData a]) moves answers u ∧
      SpiCalled .spiRdData v u := by
  obtain ⟨hop', -, -, -⟩ := h.operands
  have hreply := h.progress.turn.nextReply_eq
  have hok := h.progress.turn.succeeds hreturns hstatus
  have hbyte (n : Nat) : replyByte (turnStart v) n = [x, y].getD n 0 := by rw [replyByte, hreply, hbytes]
  have hwf' : (turnStart v).params.wf = true := by
    rw [h.progress.turn.params]
    exact hwf
  have hstep := (step_phase h.progress.inputs (h.progress.engine.trans hrun)
    (sequence_spiRdData (hop'.trans hop) h.phase)).trans (exec_spiRdData_eq_of_succeeds hwf' hok)
  rw [hbyte, hbyte] at hstep
  exact ⟨_, hstep, h.call 3 rfl, 3, hok, rfl, rfl, rfl, rfl⟩

/-! ### The device -/

/-- Where the ready line has shown nothing new, the next call finds the line as it was left. -/
theorem SpiLeft.settled {d : State} {line : SpiLine} (h : SpiLeft d line v) :
    (settleSpi v).spiLine = line := by
  obtain ⟨hline, -, -, hseen⟩ := h
  rw [settleSpi_of_not_seen v hseen, hline]

/-- A call within a frame adds its bits to what was sent. -/
theorem SpiCalled.sends {d : State} {line : SpiLine} {bits : List Bool} {r : Request} (h : SpiCalled r v u)
    (hv : SpiLeft d line v)
    (hbits : ∀ k s, Succeeds s r → SpiLeft (settleSpi s) { (settleSpi s).spiLine with wire := s.spiLine.wire ++ bits }
      (answeredCall k r s)) : SpiLeft d { line with wire := line.wire ++ bits } u := by
  obtain ⟨k, hok, hsame⟩ := h
  exact (hv.sends (hbits k (turnStart v) hok)).of_sameSpi hsame

/-- A whole read frame leaves the device as it was, but for a cycle that the ready line has shown ended. -/
theorem spiLeft_of_read {A : BitVec 8} (hcs : v.spiLine.cs = false) (hop : SpiCalled (.spiRdOp (hi5 A)) v u)
    (hlow : SpiCalled (.spiRdLo (lo3 A)) u w) (hdata : SpiCalled .spiRdData w x) :
    SpiLeft (settleSpi v) { (settleSpi v).spiLine with cs := false, wire := [] } x := by
  obtain ⟨k, hok, hsame⟩ := hop
  have hhead := hlow.sends (bits := bitsOf (lo3 A) ++ [false])
    ((spiLeft_readOpcode k hcs hok).of_sameSpi hsame) fun k s hok => by
      have h := spiLeft_readLow k hok
      rwa [List.append_assoc] at h
  rw [bitsOf_readHead] at hhead
  obtain ⟨k', hok', hsame'⟩ := hdata
  have hend := hhead.trans ((spiLeft_readData (s := w) k' (congrArg SpiLine.cs hhead.1) (congrArg SpiLine.wire hhead.1)
    hok').of_sameSpi hsame')
  rw [hhead.settled] at hend
  exact hend

end

theorem physicalTransactions_of_read (A : BitVec 8) (a b c : Reply) :
    physicalTransactions [] [recordOf (.spiRdOp (hi5 A)) a, recordOf (.spiRdLo (lo3 A)) b, recordOf .spiRdData c] =
      [bitsOf (0b110#3 ++ A ++ 0#1)] := by
  have hbits : [] ++ (Request.spiRdOp (hi5 A)).bits ++ (Request.spiRdLo (lo3 A)).bits ++ Request.spiRdData.bits =
      bitsOf (0b110#3 ++ A ++ 0#1) := by
    rw [bitsOf_append_rdOp, bits_spiRdLo, List.nil_append, bitsOf_readHead]
    exact List.append_nil _
  rw [← hbits]
  rfl

/-- Settles O47: the command, the two calls that address the word, the one that reads it. -/
theorem spiReadReturnsTheWord : Obligations.SpiReadReturnsTheWord := by
  intro s addr a b c x y rest later hi lo hwf hidle hhandle hhi hlo hin hreplies hbytes ha haStatus hb hbStatus hc
    hcStatus
  have hstart := step_accepts (bus := .spi) hin hidle (decodeCommand_encode_spiReadWord addr) (fun _ => rfl) hhandle
  have h0 := spiAt_accepted 3 addr 0 hin
  rw [hreplies] at h0
  obtain ⟨u, hstep1, h1, hop⟩ := h0.step_of_spiRdOp rfl rfl hhi ha haStatus
  obtain ⟨v, hstep2, h2, hlow⟩ := h1.step_of_spiRdLo rfl rfl hlo hb hbStatus
  obtain ⟨w, hstep3, h3, hdata⟩ := h2.step_of_spiRdData rfl hwf rfl hbytes hc hcStatus
  have hrun : Sys2Proof.core.run 4 s = .next (finish .ok (y ++ x) false 0 w) :=
    (run_succ_of_step hstart 3).trans ((run_succ_of_step hstep1 2).trans
      ((run_succ_of_step hstep2 1).trans (run_one_of_step hstep3)))
  refine ⟨_, hrun, rfl, rfl, rfl, rfl, rfl, rfl, h3.progress.trace, h3.progress.replies, h3.progress.inputs, h3.i2c,
    fun hcs hpacking => ?_⟩
  have hhi' : hi = hi5 addr := by rw [hhi, hpacking]; rfl
  have hlo' : lo = lo3 addr := by rw [hlo, hpacking]; rfl
  subst hhi' hlo'
  have hleft := (spiLeft_of_read hcs hop hlow hdata).of_sameSpi (sameSpi_finish .ok (y ++ x) false 0 w)
  refine ⟨hleft.1, hleft.2.1, fun A => hleft.readSpi_eq A, ?_⟩
  have htrace : (finish .ok (y ++ x) false 0 w).trace = s.trace ++ _ := h3.progress.trace
  rw [htrace, List.drop_left]
  exact physicalTransactions_of_read addr a b c

end Sys2Proof.Machine
end

section
/-! SUPPORT. The whole SPI_WRITE_WORD. -/

namespace Sys2Proof.Machine

/-! ## The calls up to the strobe -/

section

variable {b s u v w : State} {p : BitVec 4} {n : BitVec 8} {poll seen : Bool} {calls : List Call}
  {moves : List Input} {answers : List Reply} {a : Reply}

theorem SpiAt.step_of_spiWe (h : SpiAt b (0, poll, n, seen) calls (.engine :: moves) (a :: answers) v)
    (hrun : b.engine = .running) (hop : b.argOp = 2) (hreturns : a.returns = true)
    (hstatus : replyStatus .spiWe a = .ok) :
    ∃ u, step v = .next u ∧ SpiAt b (2, poll, n, seen) (calls ++ [recordOf .spiWe a]) moves answers u ∧
      SpiCalled .spiWe v u := by
  obtain ⟨hop', -⟩ := h.operands
  have hseq := sequence_spiWe (hop'.trans hop) (.inl h.phase)
  exact h.step_of_succeeds hrun hseq (fun _ => rfl) rfl hreturns hstatus

theorem SpiAt.step_of_spiWrOp (h : SpiAt b (2, poll, n, seen) calls (.engine :: moves) (a :: answers) v)
    (hrun : b.engine = .running) (hop : b.argOp = 2) {hi : BitVec 5}
    (hhi : hi = writeHigh b.params.addrPacking b.argAddr) (hreturns : a.returns = true)
    (hstatus : replyStatus (.spiWrOp hi) a = .ok) :
    ∃ u, step v = .next u ∧
      SpiAt b (3, poll, n, seen) (calls ++ [recordOf (.spiWrOp hi) a]) moves answers u ∧
      SpiCalled (.spiWrOp hi) v u := by
  obtain ⟨hop', haddr, -, hparams⟩ := h.operands
  have hseq := sequence_spiWrOp (hop'.trans hop) h.phase
  rw [haddr, hparams, ← hhi] at hseq
  exact h.step_of_succeeds hrun hseq (fun _ => rfl) rfl hreturns hstatus

theorem SpiAt.step_of_spiWrLo (h : SpiAt b (3, poll, n, seen) calls (.engine :: moves) (a :: answers) v)
    (hrun : b.engine = .running) (hop : b.argOp = 2) {lo : BitVec 3}
    (hlo : lo = writeLow b.params.addrPacking b.argAddr) (hreturns : a.returns = true)
    (hstatus : replyStatus (.spiWrLo lo) a = .ok) :
    ∃ u, step v = .next u ∧
      SpiAt b (4, poll, n, seen) (calls ++ [recordOf (.spiWrLo lo) a]) moves answers u ∧
      SpiCalled (.spiWrLo lo) v u := by
  obtain ⟨hop', haddr, -, hparams⟩ := h.operands
  have hseq := sequence_spiWrLo (hop'.trans hop) h.phase
  rw [haddr, hparams, ← hlo] at hseq
  exact h.step_of_succeeds hrun hseq (fun _ => rfl) rfl hreturns hstatus

theorem SpiAt.step_of_spiWrData (h : SpiAt b (4, poll, n, seen) calls (.engine :: moves) (a :: answers) v)
    (hrun : b.engine = .running) (hop : b.argOp = 2) (hreturns : a.returns = true)
    (hstatus : replyStatus (.spiWrData (wordLow b.argData) (wordHigh b.argData)) a = .ok) :
    ∃ u, step v = .next u ∧ SpiAt b (5, poll, n, seen)
        (calls ++ [recordOf (.spiWrData (wordLow b.argData) (wordHigh b.argData)) a]) moves answers u ∧
      SpiCalled (.spiWrData (wordLow b.argData) (wordHigh b.argData)) v u := by
  obtain ⟨hop', -, hdata, -⟩ := h.operands
  have hseq := sequence_spiWrData (hop'.trans hop) h.phase
  rw [hdata] at hseq
  exact h.step_of_succeeds hrun hseq (fun _ => rfl) rfl hreturns hstatus

/-- The move that the sequencer makes. -/
theorem step_move {m : Move} (hin : v.inputs = .engine :: moves) (hseq : sequence v = m) :
    step v = outcomeOf (engineTurn m (turnStart v)) := by
  rw [step_of_engine hin, hseq, ← turnStart_of_cons hin]

/-- The strobe: the polls come next. -/
theorem SpiAt.step_of_strobe (h : SpiAt b (5, false, n, seen) calls (.engine :: moves) (a :: answers) v)
    (hrun : b.engine = .running) (hop : b.argOp = 2) (hreturns : a.returns = true)
    (hstatus : replyStatus .spiStrobe a = .ok) :
    ∃ u, step v = .next u ∧ SpiAt b (5, true, 0, seen) (calls ++ [recordOf .spiStrobe a]) moves answers u ∧
      SpiCalled .spiStrobe v u := by
  obtain ⟨hop', -⟩ := h.operands
  have hok := h.progress.turn.succeeds hreturns hstatus
  have hstep := (step_move h.progress.inputs (sequence_strobe (hop'.trans hop) h.phase h.polling)).trans
    (outcomeOf_engineTurn_strobe (s := turnStart v) (h.progress.engine.trans hrun))
  rw [strobeFlow, callThen_of_succeeds hok, if_pos rfl] at hstep
  obtain ⟨hprogress, hregs, hi2c⟩ := h.call (r := .spiStrobe) 5 rfl
  exact ⟨_, hstep, ⟨hprogress, congrArg (fun q : BitVec 4 × Bool × BitVec 8 × Bool => (q.1, true, 0, q.2.2.2)) hregs,
    hi2c⟩, 5, hok, rfl, rfl, rfl, rfl⟩

/-! ## The polls of the ready line -/

/-- The engine's turn while it polls the ready line. -/
theorem SpiAt.step_isBusy (h : SpiAt b (5, true, n, seen) calls (.engine :: moves) answers v)
    (hrun : b.engine = .running) (hop : b.argOp = 2) : step v = flowOutcome (busyFlow (turnStart v)) := by
  obtain ⟨hop', -⟩ := h.operands
  exact (step_move h.progress.inputs (sequence_isBusy (hop'.trans hop) h.phase h.polling)).trans
    (outcomeOf_engineTurn_isBusy (s := turnStart v) (h.progress.engine.trans hrun))

theorem progressOf_busySampled (a : Reply) (v : State) :
    progressOf (busySampled a v) = { progressOf v with
      trace := v.trace ++ [.isBusy (Status.ofCode a.code) a.busy], replies := v.replies.tail } := by
  simp [progressOf, engineView, busySampled]

/-- What the engine holds once the ready line has been sampled. -/
theorem SpiAt.sampled (h : SpiAt b (p, poll, n, seen) calls (.engine :: moves) (a :: answers) v) :
    SpiAt b (p, poll, n + 1, a.busy) (calls ++ [.isBusy (Status.ofCode a.code) a.busy]) moves answers
      (busySampled a (turnStart v)) where
  progress := by
    have hprogress := h.progress.turn
    have hsampled := progressOf_busySampled a (turnStart v)
    rw [hprogress.trace, hprogress.replies, List.append_assoc] at hsampled
    exact hsampled.trans (congrArg (fun w : State => { w with
      trace := b.trace ++ (calls ++ [Call.isBusy (Status.ofCode a.code) a.busy]), replies := answers }) hprogress)
  registers := by
    have hregs := h.registers
    simp_all [registersOf, turnStart]
  i2c := h.i2c.trans (busySampled_leaves a (turnStart v)).1

/-- A poll of a busy device below the budget. -/
theorem SpiAt.step_of_busy (h : SpiAt b (5, true, n, seen) calls (.engine :: moves) (a :: answers) v)
    (hrun : b.engine = .running) (hop : b.argOp = 2) (hreturns : a.returns = true)
    (hstatus : Status.ofCode a.code = .ok) (hbusy : a.busy = true) (hn : (n + 1).toNat < b.params.spiBusyBudget) :
    ∃ u, step v = .next u ∧
      SpiAt b (5, true, n + 1, a.busy) (calls ++ [.isBusy (Status.ofCode a.code) a.busy]) moves answers u ∧
      SameSpi v u := by
  have hreply := h.progress.turn.nextReply_eq
  have hmore : ((turnStart v).retry + 1).toNat < (turnStart v).params.spiBusyBudget := by
    rw [h.progress.turn.params]
    exact h.retry ▸ hn
  have hstep := h.step_isBusy hrun hop
  rw [busyFlow_again (by rw [hreply, hreturns]) (by rw [hreply, hstatus]) (by rw [hreply, hbusy]) hmore, hreply]
    at hstep
  exact ⟨_, hstep, h.sampled, sameSpi_busySampled (s := turnStart v) (by simp [hbusy])⟩

/-- The last poll: of a ready device, or of a busy one at the budget. -/
theorem SpiAt.step_of_last_poll (h : SpiAt b (5, true, n, seen) calls (.engine :: moves) (a :: answers) v)
    (hrun : b.engine = .running) (hop : b.argOp = 2) (hreturns : a.returns = true)
    (hstatus : Status.ofCode a.code = .ok) (hlast : a.busy = true → (n + 1).toNat = b.params.spiBusyBudget) :
    ∃ u, step v = .next u ∧
      SpiAt b (6, false, n + 1, a.busy) (calls ++ [.isBusy (Status.ofCode a.code) a.busy]) moves answers u ∧
      SameSpi (noteReady a.busy v) u := by
  have hreply := h.progress.turn.nextReply_eq
  have hend : ¬ (a.busy = true ∧ ((turnStart v).retry + 1).toNat < (turnStart v).params.spiBusyBudget) := by
    rintro ⟨hbusy, hmore⟩
    rw [h.progress.turn.params, ← hlast hbusy] at hmore
    exact absurd hmore (h.retry ▸ Nat.lt_irrefl _)
  have hstep := h.step_isBusy hrun hop
  rw [busyFlow_leaves (by rw [hreply, hreturns]) (by rw [hreply, hstatus]) (by rw [hreply]; exact hend), hreply]
    at hstep
  obtain ⟨hprogress, hregs, hi2c⟩ := h.sampled
  refine ⟨_, hstep, ⟨hprogress, congrArg (fun q : BitVec 4 × Bool × BitVec 8 × Bool => (6, false, q.2.2)) hregs,
    hi2c⟩, ?_⟩
  simp [SameSpi, turnStart]

/-- A row of polls of a busy device. -/
theorem SpiAt.run_of_busy (busy : List Reply) {m : Nat}
    (h : SpiAt b (5, true, BitVec.ofNat 8 m, seen) calls (List.replicate busy.length .engine ++ moves)
      (busy ++ answers) v)
    (hrun : b.engine = .running) (hop : b.argOp = 2) (hwf : b.params.wf = true)
    (hm : m + busy.length < b.params.spiBusyBudget)
    (hbusy : ∀ a ∈ busy, a.returns = true ∧ Status.ofCode a.code = .ok ∧ a.busy = true) :
    ∃ u seen', Sys2Proof.core.run busy.length v = .next u ∧
      SpiAt b (5, true, BitVec.ofNat 8 (m + busy.length), seen')
        (calls ++ busy.map fun a => Call.isBusy (Status.ofCode a.code) a.busy) moves answers u ∧
      SameSpi v u := by
  induction busy generalizing m seen calls v with
  | nil => exact ⟨v, seen, rfl, by simpa using h, rfl, rfl, rfl, rfl⟩
  | cons a busy ih =>
    obtain ⟨⟨hreturns, hstatus, hbusyA⟩, hbusy⟩ := List.forall_mem_cons.1 hbusy
    obtain ⟨-, ⟨-, hbudget⟩, -⟩ := (params_wf_iff _).1 hwf
    rw [List.length_cons] at hm
    have hsucc : BitVec.ofNat 8 m + 1 = BitVec.ofNat 8 (m + 1) := (BitVec.ofNat_add m 1).symm
    have hmore : (BitVec.ofNat 8 m + 1).toNat < b.params.spiBusyBudget := by
      rw [hsucc, BitVec.toNat_ofNat, Nat.mod_eq_of_lt (by omega)]
      omega
    obtain ⟨u, hstep, hu, hsame⟩ := h.step_of_busy hrun hop hreturns hstatus hbusyA hmore
    rw [hsucc] at hu
    obtain ⟨w, seen', hrunw, hw, hsame'⟩ := ih hu (by omega) hbusy
    refine ⟨w, seen', (run_succ_of_step hstep _).trans hrunw, ?_, hsame.trans hsame'⟩
    rwa [List.append_assoc, Nat.add_right_comm, Nat.add_assoc] at hw

/-! ## The release and the write disable -/

theorem SpiAt.step_of_release (h : SpiAt b (6, poll, n, seen) calls (.engine :: moves) (a :: answers) v)
    (hrun : b.engine = .running) (hop : b.argOp = 2) (hreturns : a.returns = true)
    (hstatus : replyStatus .spiRelease a = .ok) :
    ∃ u, step v = .next u ∧ SpiAt b (7, poll, n, seen) (calls ++ [recordOf .spiRelease a]) moves answers u ∧
      SpiCalled .spiRelease v u := by
  obtain ⟨hop', -⟩ := h.operands
  have hok := h.progress.turn.succeeds hreturns hstatus
  have hstep := (step_move h.progress.inputs (sequence_release (hop'.trans hop) h.phase)).trans
    (outcomeOf_engineTurn_release (s := turnStart v) (h.progress.engine.trans hrun))
  rw [phaseStep_of_succeeds' hok] at hstep
  obtain ⟨hprogress, hregs, hi2c⟩ := h.call (r := .spiRelease) 6 rfl
  exact ⟨_, hstep, ⟨hprogress, congrArg (fun q : BitVec 4 × Bool × BitVec 8 × Bool => (7, q.2)) hregs, hi2c⟩, 6, hok,
    rfl, rfl, rfl, rfl⟩

/-- The write disable ends the operation with the last busy value and the count of polls. -/
theorem SpiAt.step_of_spiWd (h : SpiAt b (7, poll, n, seen) calls (.engine :: moves) (a :: answers) v)
    (hrun : b.engine = .running) (hop : b.argOp = 2) (hreturns : a.returns = true)
    (hstatus : replyStatus .spiWd a = .ok) :
    ∃ u, step v = .next (finish .ok 0 seen n u) ∧
      SpiAt b (7, poll, n, seen) (calls ++ [recordOf .spiWd a]) moves answers u ∧ SpiCalled .spiWd v u := by
  obtain ⟨hop', -⟩ := h.operands
  have hok := h.progress.turn.succeeds hreturns hstatus
  have hstep := (step_phase h.progress.inputs (h.progress.engine.trans hrun)
    (sequence_spiWd (hop'.trans hop) h.phase)).trans (exec_spiWd_of_succeeds hok)
  rw [show (turnStart v).busyLast = seen from h.busyLast, show (turnStart v).retry = n from h.retry] at hstep
  exact ⟨_, hstep, h.call 7 rfl, 7, hok, rfl, rfl, rfl, rfl⟩

end

end Sys2Proof.Machine
end

section
/-! SUPPORT. The device through a whole SPI_WRITE_WORD, and the operation assembled. -/

namespace Sys2Proof.Machine

/-! ## The device that is writing -/

/-- The device performs a write of `D` to word `A` that began since `b`, and nobody has seen it ready. -/
structure SpiWriting (cs : Bool) (A : BitVec 8) (D : DataWord) (b v : State) : Prop where
  line : v.spiLine = { cs := cs, wire := [], enabled := true, cycle := true }
  pending : v.spiPending = some (A.toNat, D)
  notSeen : v.spiReadySeen = false
  others : ∀ B, B ≠ A → readSpi v B = readSpi b B

/-- The device has performed a write of `D` to word `A` since `b`. -/
structure SpiWritten (A : BitVec 8) (D : DataWord) (b v : State) : Prop where
  line : v.spiLine = { cs := false, wire := [], enabled := true, cycle := false }
  word : readSpi v A = some D
  others : ∀ B, B ≠ A → readSpi v B = readSpi b B

section

variable {b s u v w x y : State} {cs cs' : Bool} {A : BitVec 8} {D : DataWord} {line : SpiLine}

/-- The calls of a write frame, after the write enable, begin the write. -/
theorem spiWriting_of_frame {lo hi : Byte} (hcs : b.spiLine.cs = false) (hwe : SpiCalled .spiWe b v)
    (hop : SpiCalled (.spiWrOp (hi5 A)) v w) (hlow : SpiCalled (.spiWrLo (lo3 A)) w x)
    (hdata : SpiCalled (.spiWrData lo hi) x y) : SpiWriting false A (hi ++ lo) b y := by
  obtain ⟨k1, hok1, hsame1⟩ := hwe
  have henabled := (spiLeft_writeEnable (s := b) k1 (x := engineX) hcs hok1).of_sameSpi hsame1
  obtain ⟨k2, hok2, hsame2⟩ := hop
  have hopcode := henabled.trans ((spiLeft_writeOpcode (s := v) k2 (congrArg SpiLine.cs henabled.1) hok2).of_sameSpi hsame2)
  rw [henabled.settled] at hopcode
  have hhead := hlow.sends hopcode fun k s hok => spiLeft_writeLow k hok
  rw [bitsOf_writeHead] at hhead
  obtain ⟨k4, hok4, hsame4⟩ := hdata
  obtain ⟨hline, hpending, hothers⟩ := writeData_leaves (s := x) (A := A) k4
    (congrArg SpiLine.cs hhead.1) (congrArg SpiLine.wire hhead.1) hok4
  rw [hhead.settled] at hline
  have hseen := answeredCall_spiReadySeen (s := x) k4 (r := .spiWrData lo hi) rfl
  refine ⟨hsame4.1.trans hline, hsame4.2.1.trans hpending, hsame4.2.2.2.trans hseen, fun B hB => ?_⟩
  exact ((readSpi_of_sameSpi hsame4 B).trans (hothers B hB)).trans (hhead.readSpi_eq B)

theorem SpiWriting.of_sameSpi (h : SpiWriting cs A D b v) (hsame : SameSpi v u) : SpiWriting cs A D b u := by
  obtain ⟨hline, hpending, hmem, hseen⟩ := id hsame
  exact ⟨hline.trans h.line, hpending.trans h.pending, hseen.trans h.notSeen, fun B hB =>
    (readSpi_of_sameSpi hsame B).trans (h.others B hB)⟩

/-- A call that writes nothing leaves a device that is writing as it is, but for chip select. -/
theorem SpiWriting.of_left (h : SpiWriting cs A D b v) (hleft : SpiLeft (settleSpi v) line u)
    (hline : line = { v.spiLine with cs := cs', wire := [] }) : SpiWriting cs' A D b u := by
  obtain ⟨hline', hmem, hpending, hseen⟩ := id hleft
  rw [settleSpi_of_not_seen v h.notSeen] at hpending
  refine ⟨?_, hpending.trans h.pending, hseen, fun B hB => (hleft.readSpi_eq B).trans (h.others B hB)⟩
  rw [hline', hline, h.line]

theorem SpiWriting.strobe (h : SpiWriting false A D b v) (hstrobe : SpiCalled .spiStrobe v u) :
    SpiWriting true A D b u := by
  obtain ⟨k, hok, hsame⟩ := hstrobe
  have hleft := spiLeft_strobe (s := v) k (congrArg SpiLine.cs h.line) hok
  rw [settleSpi_of_not_seen v h.notSeen] at hleft
  exact h.of_left (by rw [settleSpi_of_not_seen v h.notSeen]; exact hleft.of_sameSpi hsame) rfl

/-- The release of a device that was not seen ready. -/
theorem SpiWriting.release (h : SpiWriting true A D b v) (hrelease : SpiCalled .spiRelease v u) :
    SpiWriting false A D b u := by
  obtain ⟨k, hok, hsame⟩ := hrelease
  have hleft := (spiLeft_release (s := v) k (congrArg SpiLine.cs h.line) (congrArg SpiLine.wire h.line)
    hok).of_sameSpi hsame
  refine h.of_left hleft ?_
  rw [settleSpi_of_not_seen v h.notSeen, h.line]

/-- The release of a device that the last poll showed ready: its write has committed. -/
theorem SpiWriting.release_of_ready (h : SpiWriting true A D b v) (hready : SameSpi (noteReady false v) w)
    (hrelease : SpiCalled .spiRelease w u) : SpiWritten A D b u := by
  obtain ⟨k, hok, hsame⟩ := hrelease
  obtain ⟨hline, -, -, hseen⟩ := id hready
  have hline' : w.spiLine = { cs := true, wire := [], enabled := true, cycle := true } := hline.trans h.line
  have hseen' : w.spiReadySeen = true := by
    rw [hseen, noteReady, h.line]
    exact Bool.or_true _
  have hleft := (spiLeft_release (s := w) k (congrArg SpiLine.cs hline') (congrArg SpiLine.wire hline')
    hok).of_sameSpi hsame
  have hread (B : BitVec 8) : readSpi u B = readSpi (noteReady false v) B :=
    (hleft.readSpi_eq B).trans (readSpi_of_sameSpi hready B)
  refine ⟨?_, (hread A).trans ?_, fun B hB => (hread B).trans ?_⟩
  · rw [hleft.1, settleSpi, hline', hseen']
    rfl
  · rcases readSpi_noteReady false v A with ⟨d, -, -, hpending, hword⟩ | ⟨hnone, -⟩
    · cases h.pending.symm.trans hpending
      exact hword
    · exact absurd h.pending (hnone rfl (congrArg SpiLine.cs h.line) D)
  · rcases readSpi_noteReady false v B with ⟨d, -, -, hpending, -⟩ | ⟨-, hword⟩
    · obtain ⟨hword, -⟩ := Prod.mk.inj (Option.some.inj (h.pending.symm.trans hpending))
      exact absurd (BitVec.eq_of_toNat_eq hword).symm hB
    · exact hword.trans (h.others B hB)

/-- A write disable leaves chip select deasserted and the words as they are, whatever the device does. -/
theorem SpiCalled.spiWd_leaves (hcs : v.spiLine.cs = false) (h : SpiCalled .spiWd v u) :
    u.spiLine.cs = false ∧ ∀ B, readSpi u B = readSpi v B := by
  obtain ⟨k, hok, hsame⟩ := h
  have hfits : csMisused Request.spiWd.opts (settleSpi v).spiLine.cs = false :=
    csMisused_nineBits (0b10000#5 ++ engineX) hcs
  refine ⟨?_, fun B => (readSpi_of_sameSpi hsame B).trans (readSpi_answeredCall (s := v) k rfl hfits fun d hd => ?_)⟩
  · rw [hsame.1, answeredCall_spiLine k rfl, hok.2]
    exact congrArg SpiLine.cs (spiLineAfter_frame hfits rfl)
  · cases (frameWrites_of_decodes (decodeWire_nineBits_writeDisable engineX _) nofun).symm.trans hd

/-- One of a ready device protects it. -/
theorem SpiWritten.spiWd (h : SpiWritten A D b v) (hwd : SpiCalled .spiWd v u) :
    u.spiLine.enabled = false ∧ u.spiLine.cycle = false ∧ readSpi u A = some D := by
  obtain ⟨-, hread⟩ := hwd.spiWd_leaves (congrArg SpiLine.cs h.line)
  obtain ⟨k, hok, hsame⟩ := hwd
  have hcycle : (settleSpi v).spiLine.cycle = false := by rw [settleSpi, h.line]; rfl
  have hleft := (spiLeft_writeDisable (s := v) k (x := engineX) (congrArg SpiLine.cs h.line) hcycle hok).of_sameSpi
    hsame
  exact ⟨congrArg SpiLine.enabled hleft.1, congrArg SpiLine.cycle hleft.1, (hread A).trans h.word⟩

end

/-! ## The transactions -/

theorem physicalTransactions_polls (sent : List Bool) (polls : List Reply) (calls : List Call) :
    physicalTransactions sent (polls.map (fun a => Call.isBusy (Status.ofCode a.code) a.busy) ++ calls) =
      physicalTransactions sent calls := by
  induction polls with
  | nil => rfl
  | cons a polls ih => exact ih

/-- The bits of a write frame, transfer by transfer. -/
theorem bits_write (A : BitVec 8) (lo hi : Byte) :
    (Request.spiWrOp (hi5 A)).bits ++ (Request.spiWrLo (lo3 A)).bits ++ (Request.spiWrData lo hi).bits =
      bitsOf (0b101#3 ++ A ++ lo ++ hi) := by
  rw [bitsOf_append_wrOp, bits_spiWrLo, bitsOf_writeHead, bits_spiWrData, ← List.append_assoc, ← bitsOf_append,
    ← bitsOf_append]

theorem physicalTransactions_of_write (A : BitVec 8) (lo hi : Byte) (r1 r2 r3 r4 r5 r6 r7 : Reply)
    (polls : List Reply) :
    physicalTransactions [] ([recordOf .spiWe r1, recordOf (.spiWrOp (hi5 A)) r2, recordOf (.spiWrLo (lo3 A)) r3,
        recordOf (.spiWrData lo hi) r4, recordOf .spiStrobe r5] ++
        polls.map (fun a => Call.isBusy (Status.ofCode a.code) a.busy) ++
        [recordOf .spiRelease r6, recordOf .spiWd r7]) =
      [bitsOf 0b100111110#9, bitsOf (0b101#3 ++ A ++ lo ++ hi), [], bitsOf 0b100001110#9] := by
  have hpolls := physicalTransactions_polls [] polls [recordOf .spiRelease r6, recordOf .spiWd r7]
  rw [← bits_write, List.append_assoc]
  exact congrArg (fun l => Request.spiWe.bits :: (_ ++ _ ++ _) :: l) hpolls

/-! ## The operation -/

theorem replicate_around {α : Type} (n : Nat) (x : α) (l : List α) :
    List.replicate (n + 8) x ++ l =
      x :: x :: x :: x :: x :: (List.replicate n x ++ x :: x :: x :: l) := by
  have hcount : n + 8 = 5 + (n + 3) := by omega
  rw [hcount, ← List.replicate_append_replicate, ← List.replicate_append_replicate, List.append_assoc,
    List.append_assoc]
  rfl

/-- A write up to its polls: the write enable, the write frame, the strobe. -/
theorem exists_run_to_polls {s : State} {addr : BitVec 8} {data : DataWord} {r1 r2 r3 r4 r5 : Reply}
    {hi : BitVec 5} {lo : BitVec 3} {moves : List Input} {answers : List Reply} (hidle : s.engine = .idle)
    (hhandle : s.spiChValid = true) (hhi : hi = writeHigh s.params.addrPacking addr)
    (hlo : lo = writeLow s.params.addrPacking addr)
    (hin : s.inputs =
      .cmd (commandS 2 addr data) :: .engine :: .engine :: .engine :: .engine :: .engine :: moves)
    (hreplies : s.replies = r1 :: r2 :: r3 :: r4 :: r5 :: answers)
    (h1 : r1.returns = true) (h2 : r2.returns = true) (h3 : r3.returns = true) (h4 : r4.returns = true)
    (h5 : r5.returns = true) (s1 : replyStatus .spiWe r1 = .ok) (s2 : replyStatus (.spiWrOp hi) r2 = .ok)
    (s3 : replyStatus (.spiWrLo lo) r3 = .ok)
    (s4 : replyStatus (.spiWrData (wordLow data) (wordHigh data)) r4 = .ok)
    (s5 : replyStatus .spiStrobe r5 = .ok) :
    ∃ v, Sys2Proof.core.run 6 s = .next v ∧
      SpiAt (accepted 2 0 0 addr data s) (5, true, BitVec.ofNat 8 0, false)
        [recordOf .spiWe r1, recordOf (.spiWrOp hi) r2, recordOf (.spiWrLo lo) r3,
          recordOf (.spiWrData (wordLow data) (wordHigh data)) r4, recordOf .spiStrobe r5] moves answers v ∧
      (s.spiLine.cs = false → s.params.addrPacking = .prose53 → SpiWriting true addr data s v) := by
  have hstart := step_accepts (bus := .spi) hin hidle (decodeCommand_encode_spiWriteWord addr data) (fun _ => rfl)
    hhandle
  have hat := spiAt_accepted 2 addr data hin
  rw [hreplies] at hat
  obtain ⟨v1, hstep1, hat, hwe⟩ := hat.step_of_spiWe rfl rfl h1 s1
  obtain ⟨v2, hstep2, hat, hop⟩ := hat.step_of_spiWrOp rfl rfl hhi h2 s2
  obtain ⟨v3, hstep3, hat, hlow⟩ := hat.step_of_spiWrLo rfl rfl hlo h3 s3
  obtain ⟨v4, hstep4, hat, hdata⟩ := hat.step_of_spiWrData rfl rfl h4 s4
  obtain ⟨v5, hstep5, hat, hstrobe⟩ := hat.step_of_strobe rfl rfl h5 s5
  refine ⟨v5, ?_, hat, fun hcs hpacking => ?_⟩
  · rw [run_succ_of_step hstart, run_succ_of_step hstep1, run_succ_of_step hstep2, run_succ_of_step hstep3,
      run_succ_of_step hstep4, run_one_of_step hstep5]
  · have hhi' : hi = hi5 addr := by rw [hhi, hpacking]; rfl
    have hlo' : lo = lo3 addr := by rw [hlo, hpacking]; rfl
    subst hhi' hlo'
    have hword : wordHigh data ++ wordLow data = data :=
      (joinWord_eq_append _ _).symm.trans (joinWord_wordLow_wordHigh data)
    have hwriting := (spiWriting_of_frame hcs hwe hop hlow hdata).strobe hstrobe
    obtain ⟨hline, hpending, hseen, hothers⟩ := hwriting
    exact ⟨hline, hpending.trans (congrArg (fun d => some (addr.toNat, d)) hword), hseen, hothers⟩

/-- What the release and the write disable leave of a device that was writing. -/
theorem spi_after_write {A : BitVec 8} {D : DataWord} {s v u w t : State} {busy : Bool}
    (h : SpiWriting true A D s v) (hlast : SameSpi (noteReady busy v) u) (hrelease : SpiCalled .spiRelease u w)
    (hwd : SpiCalled .spiWd w t) :
    t.spiLine.cs = false ∧
      (busy = false → t.spiLine.enabled = false ∧ t.spiLine.cycle = false ∧ readSpi t A = some D) ∧
      ∀ B, B ≠ A → readSpi t B = readSpi s B := by
  cases busy with
  | false =>
    have hwritten := h.release_of_ready hlast hrelease
    obtain ⟨hcs, hread⟩ := hwd.spiWd_leaves (congrArg SpiLine.cs hwritten.line)
    exact ⟨hcs, fun _ => hwritten.spiWd hwd, fun B hB => (hread B).trans (hwritten.others B hB)⟩
  | true =>
    have hsame : SameSpi v u := by
      have hseen : (noteReady true v).spiReadySeen = v.spiReadySeen := by simp [noteReady]
      have hnote : SameSpi v (noteReady true v) := ⟨rfl, rfl, rfl, hseen⟩
      exact hnote.trans hlast
    have hwriting := (h.of_sameSpi hsame).release hrelease
    obtain ⟨hcs, hread⟩ := hwd.spiWd_leaves (congrArg SpiLine.cs hwriting.line)
    exact ⟨hcs, nofun, fun B hB => (hread B).trans (hwriting.others B hB)⟩

/-- A write from its first poll: polls of a busy device, the last one, the release, the write disable. -/
theorem SpiAt.run_of_polls {b v : State} {calls : List Call} {seen : Bool} {last r6 r7 : Reply}
    {busy rest : List Reply} {later : List Input}
    (h : SpiAt b (5, true, BitVec.ofNat 8 0, seen) calls
      (List.replicate busy.length .engine ++ .engine :: .engine :: .engine :: later)
      (busy ++ last :: r6 :: r7 :: rest) v)
    (hrun : b.engine = .running) (hop : b.argOp = 2) (hwf : b.params.wf = true)
    (hbusy : ∀ a ∈ busy, a.returns = true ∧ Status.ofCode a.code = .ok ∧ a.busy = true)
    (hlast : last.returns = true) (hstatus : Status.ofCode last.code = .ok)
    (hbelow : busy.length < b.params.spiBusyBudget)
    (hbudget : last.busy = true → busy.length + 1 = b.params.spiBusyBudget)
    (h6 : r6.returns = true) (s6 : replyStatus .spiRelease r6 = .ok) (h7 : r7.returns = true)
    (s7 : replyStatus .spiWd r7 = .ok) :
    ∃ n t, Sys2Proof.core.run (busy.length + 3) v = .next (finish .ok 0 last.busy n t) ∧
      n.toNat = busy.length + 1 ∧
      InProgress b (calls ++ ((busy ++ [last]).map (fun a => Call.isBusy (Status.ofCode a.code) a.busy) ++
        [recordOf .spiRelease r6, recordOf .spiWd r7])) later rest t ∧
      SameI2c b t ∧ ∀ A D d, SpiWriting true A D d v → t.spiLine.cs = false ∧
        (last.busy = false → t.spiLine.enabled = false ∧ t.spiLine.cycle = false ∧ readSpi t A = some D) ∧
        ∀ B, B ≠ A → readSpi t B = readSpi d B := by
  obtain ⟨u, seen', hpolls, hu, hsame⟩ := h.run_of_busy busy hrun hop hwf ((Nat.zero_add _).trans_lt hbelow) hbusy
  have hcount : (BitVec.ofNat 8 (0 + busy.length) + 1).toNat = busy.length + 1 := by
    obtain ⟨-, ⟨-, hle⟩, -⟩ := (params_wf_iff _).1 hwf
    have hsucc : BitVec.ofNat 8 busy.length + 1 = BitVec.ofNat 8 (busy.length + 1) :=
      (BitVec.ofNat_add busy.length 1).symm
    rw [Nat.zero_add, hsucc, BitVec.toNat_ofNat, Nat.mod_eq_of_lt (by omega)]
  obtain ⟨w, hstepLast, hw, hready⟩ := hu.step_of_last_poll hrun hop hlast hstatus fun h =>
    hcount.trans (hbudget h)
  obtain ⟨x, hstepRelease, hx, hrelease⟩ := hw.step_of_release hrun hop h6 s6
  obtain ⟨t, hstepWd, ht, hwd⟩ := hx.step_of_spiWd hrun hop h7 s7
  refine ⟨_, t, ?_, hcount, ?_, ht.i2c, fun A D d hwriting =>
    spi_after_write (hwriting.of_sameSpi hsame) hready hrelease hwd⟩
  · rw [run_add_of_next hpolls, run_succ_of_step hstepLast, run_succ_of_step hstepRelease, run_one_of_step hstepWd]
  · have hprogress := ht.progress
    simp only [List.append_assoc] at hprogress
    rw [List.map_append, List.append_assoc]
    exact hprogress

/-- Settles O46: the calls up to the strobe, then those from the first poll. -/
theorem spiWriteCompletes : Obligations.SpiWriteCompletes := by
  intro s addr data r1 r2 r3 r4 r5 r6 r7 last busy rest later hi lo hwf hidle hhandle hhi hlo hin hreplies hreturns
    s1 s2 s3 s4 s5 s6 s7 hbusy hlast hlastStatus hbelow hbudget
  simp only [List.forall_mem_cons] at hreturns
  obtain ⟨h1, h2, h3, h4, h5, h6, h7, -⟩ := hreturns
  rw [List.cons_append, replicate_around] at hin
  obtain ⟨v, hrun, hv, hwriting⟩ := exists_run_to_polls hidle hhandle hhi hlo hin hreplies h1 h2 h3 h4 h5 s1 s2 s3
    s4 s5
  obtain ⟨n, t, hrun', hcount, ht, hi2c, hdevice⟩ := hv.run_of_polls rfl rfl hwf hbusy hlast hlastStatus hbelow
    hbudget h6 s6 h7 s7
  have hend : Sys2Proof.core.run (busy.length + 9) s = .next (finish .ok 0 last.busy n t) := by
    have hsteps : busy.length + 9 = 6 + (busy.length + 3) := by omega
    rw [hsteps, run_add_of_next hrun, hrun']
  have htrace := ht.trace
  refine ⟨_, hend, rfl, rfl, rfl, rfl, rfl, hcount, ?_, ht.replies, ht.inputs, hi2c, fun hcs hpacking => ?_⟩
  · rw [← List.append_assoc, ← List.append_assoc] at htrace
    exact htrace
  · obtain ⟨hcs', hready, hothers⟩ := hdevice addr data s (hwriting hcs hpacking)
    have hread := readSpi_of_sameSpi (sameSpi_finish .ok 0 last.busy n t)
    refine ⟨hcs', ?_, fun hnotBusy => ?_, fun B hB => (hread B).trans (hothers B hB)⟩
    · have hhi' : hi = hi5 addr := by rw [hhi, hpacking]; rfl
      have hlo' : lo = lo3 addr := by rw [hlo, hpacking]; rfl
      subst hhi' hlo'
      have hcalls : t.trace.drop s.trace.length = _ :=
        (congrArg (List.drop s.trace.length) htrace).trans List.drop_left
      rw [← List.append_assoc] at hcalls
      exact (congrArg (physicalTransactions []) hcalls).trans
        (physicalTransactions_of_write addr (wordLow data) (wordHigh data) r1 r2 r3 r4 r5 r6 r7 (busy ++ [last]))
    · obtain ⟨henabled, hcycle, hword⟩ := hready hnotBusy
      exact ⟨henabled, hcycle, (hread addr).trans hword⟩

end Sys2Proof.Machine
end
